-- ==== Sys2Proof/Word.lean ====
section
/-! DEFINITION. The word types of GameTank CORE: 8-bit data, 16-bit addresses (00_scope R8). -/

namespace Sys2Proof

/-- A data byte: the bus, A, X, Y and S are 8 bits wide (00_scope R8). -/
abbrev Byte := BitVec 8

/-- A bus address: PC and every effective address are 16 bits wide (00_scope R8). -/
abbrev Addr := BitVec 16

end Sys2Proof
end

