-- ==== Sys2Proof/Config.lean ====
section
/-! DEFINITION. The named parameters of 00_scope R9, what an implementation fixes, and the choice between two accounts of
the spec (`Opcode5C`). They are plain data, so that a claim about every state is a claim about every choice of them
(notes/assumptions/9.md, 10.md, 19.md). The values after reset stand in Machine/Params.lean. No value of this machine is left
free: see INVENTORY.md. -/

namespace Sys2Proof

/-- `RESERVED_OPCODES`, the treatment of the 44 reserved opcodes (30_encoding R149). -/
inductive ReservedOpcodes where
  | refuse
  | nop
deriving DecidableEq, Repr

/-- The events of opcode 0x5C after its fetch under RESERVED_OPCODES = Nop, for which the rules of the spec give two
accounts. It is no parameter of 00_scope R9: DESIGN CHOICE, notes/assumptions/19.md. -/
inductive Opcode5C where
  /-- Five Idle events: 47_control R433, which 30_encoding R149 names for this opcode. -/
  | fiveIdles
  /-- The one Read of its class, read, on its mode, abs (41_accessors R206, 30_encoding R148, 92_eei D8), and four Idle
  events, which make up its eight cycles (70_reset R520). -/
  | discardedRead
deriving DecidableEq, Repr

/-- The parameters of the bus decode (00_scope R9): where the fields of the system-control registers, the
gamepad ports, the blitter registers, the quadrants and the bank shift register lie. -/
structure BusMap where
  /-- `BANKING_ADDR`, as a number in the system-control file. -/
  bankingIdx : Fin 10
  /-- `DMA_FLAGS_ADDR`, as a number in the system-control file. -/
  dmaFlagsIdx : Fin 10
  /-- `GAMEPAD_ADDRS`, port 1. -/
  pad1Idx : Fin 10
  /-- `GAMEPAD_ADDRS`, port 2. -/
  pad2Idx : Fin 10
  /-- `RAM_BANK_FIELD`: the lower bit of the 2-bit field. -/
  ramBankLsb : Fin 7
  /-- `VRAM_BANK_FIELD`: the lowest bit of the 3-bit field. -/
  vramBankLsb : Fin 6
  /-- `FB_SELECT_BIT`. -/
  fbSelectBit : Fin 8
  /-- `WINDOW_MODE`: the DMA-flags bit that is bit 0 of the mode. -/
  dmaEnableBit : Fin 8
  /-- `WINDOW_MODE`: the DMA-flags bit that is bit 1 of the mode. -/
  cpuToVramBit : Fin 8
  /-- `BLIT_REGS`: the number of low address bits that select a blitter register. -/
  blitIndexBits : Fin 15
  /-- `QUADRANT_LAYOUT`: the quadrant bit that selects the right half. -/
  quadRightBit : Fin 2
  /-- `QUADRANT_LAYOUT`: the quadrant bit that selects the bottom half. -/
  quadBottomBit : Fin 2
  /-- `VIA_OUT_OFFSET`. -/
  viaOutOffset : Fin 16
  /-- `SR_CLOCK_BIT`. -/
  srClockBit : Fin 8
  /-- `SR_DATA_BIT`. -/
  srDataBit : Fin 8
  /-- `SR_LATCH_BIT`. -/
  srLatchBit : Fin 8
deriving DecidableEq, Repr

end Sys2Proof
end

