-- ==== Sys2Proof/Machine/Bits.lean ====
section
/-! DEFINITION. Bit fields, extensions and byte order (00_scope R10, 20_memory R74). -/

namespace Sys2Proof.Machine

/-- `hi(a) = a[15:8]` (00_scope R10). -/
def hiByte (a : Addr) : Byte := a.extractLsb' 8 8

/-- `lo(a) = a[7:0]` (00_scope R10). -/
def loByte (a : Addr) : Byte := a.extractLsb' 0 8

/-- `hi:lo`, the 16-bit value of two bytes; the low byte lies at the lower address (00_scope R10, 20_memory R74). -/
def joinBytes (hi lo : Byte) : Addr := hi ++ lo

/-- `zext_16(b)` (00_scope R10). -/
def zext16 (b : Byte) : Addr := b.setWidth 16

/-- `sext_16` of a branch offset given as an integer (00_scope R10, 30_encoding R145). -/
def sext16 (off : Int) : Addr := BitVec.ofInt 16 off

/-- The two's-complement byte of a branch offset (30_encoding R145). -/
def offsetByte (off : Int) : Byte := BitVec.ofInt 8 off

/-- The stack address `0x0100 | S` (10_state R33). -/
def stackAddr (s : Byte) : Addr := 0x0100 ||| zext16 s

/-- The page-crossing test: the high bytes differ (40_addressing R161). -/
def pageCrossed (base ea : Addr) : Bool := hiByte base != hiByte ea

end Sys2Proof.Machine
end

