-- ==== Sys2Proof/Machine/Memory.lean ====
section
/-! DEFINITION. A memory as a list of (key, byte) cells in one canonical form: keys strictly rising, and no cell
that holds the byte an unlisted key reads as. -/

namespace Sys2Proof.Machine

/-- What an unlisted key reads as. The spec leaves the contents of every memory unspecified (70_reset R501).
DESIGN CHOICE, unsafe: notes/assumptions/4.md. -/
def unlistedByte : Byte := 0x00

/-- The byte a cell list holds at a key. -/
def cellsGet : List Host.Cell → Nat → Byte
  | [], _ => unlistedByte
  | c :: rest, k => if c.1 = k then c.2 else cellsGet rest k

/-- Insert or replace a cell, keeping the keys rising. -/
def cellsInsert : List Host.Cell → Nat → Byte → List Host.Cell
  | [], k, v => [(k, v)]
  | c :: rest, k, v =>
    if k < c.1 then (k, v) :: c :: rest
    else if k = c.1 then (k, v) :: rest
    else c :: cellsInsert rest k v

/-- Write a byte: the unlisted byte removes the cell, any other byte replaces or inserts it. -/
def cellsSet (cs : List Host.Cell) (k : Nat) (v : Byte) : List Host.Cell :=
  if v = unlistedByte then cs.filter (fun c => c.1 != k) else cellsInsert cs k v

/-- The keys rise strictly, are at least `least` and below `size`, and no cell holds the unlisted byte. -/
def cellsOk (size : Nat) : Nat → List Host.Cell → Bool
  | _, [] => true
  | least, c :: rest =>
    decide (least ≤ c.1) && decide (c.1 < size) && decide (c.2 ≠ unlistedByte) && cellsOk size (c.1 + 1) rest

/-- A memory: sparse bytes by key. -/
structure Memory where
  cells : List Host.Cell
deriving DecidableEq, Repr

def Memory.empty : Memory := ⟨[]⟩

def Memory.get (m : Memory) (k : Nat) : Byte := cellsGet m.cells k

def Memory.set (m : Memory) (k : Nat) (v : Byte) : Memory := ⟨cellsSet m.cells k v⟩

/-- The canonical form, for a memory of `size` bytes. -/
def Memory.wf (size : Nat) (m : Memory) : Bool := cellsOk size 0 m.cells

/-- The cells of a byte list whose first byte has key `k`. -/
def cellsOfBytes : Nat → List Byte → List Host.Cell
  | _, [] => []
  | k, b :: rest => if b = unlistedByte then cellsOfBytes (k + 1) rest else (k, b) :: cellsOfBytes (k + 1) rest

/-- The memory that holds a byte list from key 0 on. -/
def Memory.ofBytes (bytes : List Byte) : Memory := ⟨cellsOfBytes 0 bytes⟩

end Sys2Proof.Machine
end

