-- ==== Sys2Proof/Machine/Params.lean ====
section
/-! DEFINITION. The values of the parameters of Config.lean that `State.reset` takes. -/

namespace Sys2Proof.Machine

/-- The defaults of 00_scope R9 for the bus decode (10_state R43 to R45, 20_memory R83 to R88). -/
def defaultBusMap : BusMap where
  bankingIdx := 5
  dmaFlagsIdx := 7
  pad1Idx := 8
  pad2Idx := 9
  ramBankLsb := 6
  vramBankLsb := 0
  fbSelectBit := 3
  dmaEnableBit := 0
  cpuToVramBit := 5
  blitIndexBits := 3
  quadRightBit := 0
  quadBottomBit := 1
  viaOutOffset := 1
  srClockBit := 0
  srDataBit := 1
  srLatchBit := 2

/-- The default of RESERVED_OPCODES (00_scope R9, 30_encoding R149, 92_eei D8). -/
def defaultReserved : ReservedOpcodes := .refuse

/-- The events of 0x5C by its own rule, 47_control R433. DESIGN CHOICE: notes/assumptions/19.md. -/
def defaultOpcode5C : Opcode5C := .fiveIdles

end Sys2Proof.Machine
end

