-- ==== Sys2Proof/Machine/State.lean ====
section
/-! DEFINITION. The state of CORE as plain data (10_state R30 to R51), the reasons a step can stop, and the state
right after reset (70_reset R500, R501). -/

namespace Sys2Proof.Machine

/-- The six stored flags of P (10_state R35, R36). Bits 5 and 4 of the byte are not stored. -/
structure Flags where
  n : Bool
  v : Bool
  d : Bool
  i : Bool
  z : Bool
  c : Bool
deriving DecidableEq, Repr

/-- The cartridge variants; the payload length alone selects one (20_memory R93). -/
inductive CartSize where
  | k8
  | k32
  | m2
deriving DecidableEq, Repr

/-- The cartridge, fixed at load time (10_state R49). -/
structure Cartridge where
  size : CartSize
  data : Memory
deriving DecidableEq, Repr

/-- One physical byte behind the bus, as 10_state R42 indexes them: `ram` by bank * 0x2000 + offset, `fb` by
buffer * 0x4000 + offset, `vram` by bank * 0x10000 + index, `rom` by payload offset. -/
inductive Loc where
  | ram (k : Nat)
  | sysctl (k : Fin 10)
  | via (k : Fin 16)
  | aram (k : Nat)
  | fb (k : Nat)
  | vram (k : Nat)
  | blit (k : Nat)
  | rom (k : Nat)
deriving DecidableEq, Repr

/-- The bus part of the state (10_state R42 to R49). -/
structure Bus where
  ram : Memory
  sysctl : Vector Byte 10
  via : Vector Byte 16
  sr : Byte
  cartBank : BitVec 7
  aram : Memory
  fb : Memory
  vram : Memory
  dirty : Vector Bool 32
  blit : Memory
  quadrant : BitVec 2
  cart : Cartridge
  map : BusMap
deriving DecidableEq, Repr

/-- The levels of the inputs during one event (10_state R50): the two interrupt lines and the two gamepad bytes. -/
structure Lines where
  irq : Bool
  nmi : Bool
  pad1 : Byte
  pad2 : Byte
deriving DecidableEq, Repr

/-- The read kinds of a bus event (20_memory R70). -/
inductive ReadKind where
  | operand
  | pointer
  | data
  | locked
deriving DecidableEq, Repr

/-- The write kinds of a bus event (20_memory R70). -/
inductive WriteKind where
  | data
  | locked
deriving DecidableEq, Repr

/-- One bus event (20_memory R70). An idle event has no address and no data (20_memory R108). -/
inductive Event where
  | read (kind : ReadKind) (addr : Addr) (value : Byte)
  | write (kind : WriteKind) (addr : Addr) (value : Byte)
  | idle
deriving DecidableEq, Repr

/-- A report (20_memory R92, 60_exceptions R450). -/
inductive Report where
  | readOnlyWrite (addr : Addr) (value : Byte)
  | unmappedRead (addr : Addr)
  | unmappedWrite (addr : Addr) (value : Byte)
  | unbackedRead (addr : Addr)
deriving DecidableEq, Repr

/-- The outcome of a step (41_accessors R217); `constructed` before any step. `refused` stands only in the state that a
refusal records. -/
inductive StepOutcome where
  | constructed
  | executed (op : Byte)
  | interrupt (vector : Addr)
  | wait
  | halted
  | reset
  | refused (op : Byte)
deriving DecidableEq, Repr

/-- What a dispatch step does, once the run state and the pending latch are examined (41_accessors R207). -/
inductive StepChoice where
  | reset
  | halt
  | interrupt
  | wait
  | instruction
deriving DecidableEq, Repr

/-- What an agent outside CORE may do between two steps (20_memory R100, 70_reset R500, R510). A dirty flag is only
cleared from outside (10_state R42, 92_eei D35). -/
inductive AgentAction where
  | acpWrite (offset : BitVec 12) (value : Byte)
  | blitterVram (bank : BitVec 3) (index : BitVec 16) (value : Byte)
  | blitterFb (buffer : BitVec 1) (offset : BitVec 14) (value : Byte)
  | setQuadrant (q : BitVec 2)
  | clearDirty (k : Fin 32)
  | clearCycles
  | requestReset
deriving DecidableEq, Repr

/-- An operand accessor (41_accessors R200), a value inside one step and never state (10_state R41). `null` is the
defensive null accessor (40_addressing R185). -/
inductive Accessor where
  | none
  | regA
  | imm (value : Byte)
  | addr (ea : Addr)
  | branch (target : Addr)
  | bitBranch (tested : Byte) (target : Addr)
  | null
deriving DecidableEq, Repr

/-- The operations an accessor may support (41_accessors R200). -/
inductive AccessorOp where
  | read
  | write
  | rmw
  | effectiveAddress
  | branch
deriving DecidableEq, Repr

/-- The fatal outcomes (60_exceptions R451). All are the spec's own, hence safe. -/
inductive Fault where
  /-- F_CART_SIZE: `State.construct` raises it for a payload of an unsupported length (20_memory R93). Safe. -/
  | cartSize (length : Nat)
  /-- F_NULL_ACCESSOR: any accessor operation raises it on the null accessor (41_accessors R205). No opcode
  reaches it. Safe. -/
  | nullAccessor (op : AccessorOp)
  /-- F_CAPABILITY: an accessor operation raises it on a variant without that capability (41_accessors R205). No
  opcode reaches it. Safe. -/
  | capability (op : AccessorOp) (acc : Accessor)
deriving DecidableEq, Repr

/-- The machine. Registers and latches: 10_state R30 to R40; bus: R42; parameters: 00_scope R9; inputs: R50;
observations: 00_scope R7. -/
structure State where
  /-- The accumulator (R30). -/
  a : Byte
  /-- Index register X (R31). -/
  x : Byte
  /-- Index register Y (R32). -/
  y : Byte
  /-- The stack pointer S (R33). -/
  sp : Byte
  /-- The program counter (R34). -/
  pc : Addr
  /-- The processor status (R35). -/
  p : Flags
  /-- The cycle accumulator (R37). -/
  cycles : Nat
  /-- The pending-interrupt latch (R38). -/
  pending : Bool
  /-- The NMI level of the latest event (R39). -/
  nmiPrev : Bool
  /-- The latched NMI edge (R39). -/
  nmiEdge : Bool
  /-- The wait state (R40). -/
  waiting : Bool
  /-- The stop state (R40). -/
  stopped : Bool
  /-- The bus part (R42). -/
  bus : Bus
  /-- RESERVED_OPCODES (00_scope R9). -/
  reserved : ReservedOpcodes
  /-- Which of the spec's two accounts opcode 0x5C follows (47_control R433, 41_accessors R206; notes/assumptions/19.md). -/
  opcode5C : Opcode5C
  /-- The input levels during the latest event (R50; notes/assumptions/6.md). -/
  lines : Lines
  /-- The input levels of the events to come; when it is empty the levels stay (notes/assumptions/6.md). -/
  inputs : List Lines
  /-- What external agents do before each step to come (20_memory R100; notes/assumptions/7.md). -/
  agents : List (List AgentAction)
  /-- The host has requested reset (70_reset R500). -/
  resetRequest : Bool
  /-- The events of the latest step, in order (00_scope R7). -/
  trace : List Event
  /-- For each event of the latest step, what EdgeCheck would sample there (41_accessors R213). -/
  samples : List Bool
  /-- The report log, in order (20_memory R92). -/
  reports : List Report
  /-- The outcome of the latest step (41_accessors R217). -/
  outcome : StepOutcome
deriving DecidableEq, Repr

/-- The reasons a step has no meaning. -/
inductive Refusal where
  /-- Raised by `exec` for an instruction that has no meaning yet. Safe. -/
  | notModelled (mnemonic : String)
  /-- Refused(ReservedOpcode(op)), with the address of the opcode and what the step's one event, the opcode fetch, left:
  raised by the reserved opcodes under RESERVED_OPCODES = Refuse (41_accessors R217, R219, 60_exceptions R454, R455).
  `after` is a record; no step starts from it (notes/assumptions/15.md). Safe. -/
  | reservedOpcode (op : Byte) (addr : Addr) (after : State)
deriving DecidableEq, Repr

/-- The result of a step. -/
abbrev Result := Host.Outcome State Fault Refusal

/-- A 32 KiB cartridge of zeros. DESIGN CHOICE, unsafe: notes/assumptions/5.md. -/
def blankCartridge : Cartridge := ⟨.k32, Memory.empty⟩

/-- The machine as constructed with a cartridge, before its first reset (70_reset R501, "after construction").
Values the spec leaves unspecified: DESIGN CHOICE, notes/assumptions/1.md to 4.md, 6.md and 16.md. I and D, which the spec
gives after reset only, are false until the first reset step sets them: DESIGN CHOICE, notes/assumptions/1.md. -/
def State.powerOn (cart : Cartridge) : State where
  a := 0x00
  x := 0x00
  y := 0x00
  sp := 0xFF
  pc := 0x0000
  p := { n := false, v := false, d := false, i := false, z := false, c := false }
  cycles := 0
  pending := false
  nmiPrev := false
  nmiEdge := false
  waiting := false
  stopped := false
  bus :=
    { ram := Memory.empty
      sysctl := Vector.replicate 10 0x00
      via := Vector.replicate 16 0x00
      sr := 0x00
      cartBank := 0
      aram := Memory.empty
      fb := Memory.empty
      vram := Memory.empty
      dirty := Vector.replicate 32 false
      blit := Memory.empty
      quadrant := 0
      cart := cart
      map := defaultBusMap }
  reserved := defaultReserved
  opcode5C := defaultOpcode5C
  lines := { irq := false, nmi := false, pad1 := 0x00, pad2 := 0x00 }
  inputs := []
  agents := []
  resetRequest := false
  trace := []
  samples := []
  reports := []
  outcome := .constructed

/-- The machine right after reset with the blank cartridge (70_reset R500, R501): I = 1, D = 0, 7 cycles counted,
PC from the reset vector, which reads 0x0000 in the blank cartridge. `reset_eq_resetStep` (Laws/Reset.lean) says
that it is what the reset step makes of `State.powerOn`. -/
def State.reset : State :=
  { State.powerOn blankCartridge with
    pc := 0x0000
    p := { n := false, v := false, d := false, i := true, z := false, c := false }
    cycles := 7
    trace := [.idle, .idle, .idle, .idle, .idle, .read .pointer 0xFFFC 0x00, .read .pointer 0xFFFD 0x00]
    samples := [false, false, false, false, false, false, false]
    outcome := .reset }

end Sys2Proof.Machine
end

