-- ==== Sys2Proof/Machine/Bus.lean ====
section
/-! DEFINITION. The bus multiplexer: the address decode, reads, writes and reports (20_memory R79 to R98). -/

namespace Sys2Proof.Machine

/-! ### Register fields -/

/-- `BANKING` (10_state R44). -/
def Bus.banking (b : Bus) : Byte := b.sysctl.get b.map.bankingIdx

/-- `DMA_FLAGS` (10_state R45). -/
def Bus.dmaFlags (b : Bus) : Byte := b.sysctl.get b.map.dmaFlagsIdx

/-- `RAM_BANK` (10_state R44). -/
def Bus.ramBank (b : Bus) : BitVec 2 := b.banking.extractLsb' b.map.ramBankLsb.val 2

/-- `VRAM_BANK` (10_state R44). -/
def Bus.vramBank (b : Bus) : BitVec 3 := b.banking.extractLsb' b.map.vramBankLsb.val 3

/-- `FB_SELECT` (10_state R44). -/
def Bus.fbSelect (b : Bus) : BitVec 1 := b.banking.extractLsb' b.map.fbSelectBit.val 1

/-- The window mode `WM = (DMA_FLAGS[5] << 1) | DMA_FLAGS[0]` (20_memory R85). -/
def Bus.windowMode (b : Bus) : BitVec 2 :=
  b.dmaFlags.extractLsb' b.map.cpuToVramBit.val 1 ++ b.dmaFlags.extractLsb' b.map.dmaEnableBit.val 1

/-- Half a row or half a column of a VRAM bank, when the quadrant bit is set (20_memory R87). -/
def quadrantShift (bit : Bool) : Nat := if bit then 128 else 0

/-- `VramIndex` of an offset in the video window (20_memory R87): row-major in a 256x256 bank. -/
def Bus.vramIndex (b : Bus) (o : Nat) : Nat :=
  (o / 128 + quadrantShift (b.quadrant.getLsbD b.map.quadBottomBit.val)) * 256
    + (o % 128 + quadrantShift (b.quadrant.getLsbD b.map.quadRightBit.val))

/-- The number of a (bank, quadrant) dirty flag (10_state R42). -/
def dirtyIndex (bank : BitVec 3) (q : BitVec 2) : Fin 32 := (bank ++ q).toFin

/-! ### The cartridge -/

/-- The payload length of a variant (20_memory R93). -/
def CartSize.bytes : CartSize → Nat
  | .k8 => 8192
  | .k32 => 32768
  | .m2 => 2097152

/-- The variant of a payload length, if it has one (20_memory R93). -/
def cartSizeOf (length : Nat) : Option CartSize :=
  if length = 8192 then some .k8
  else if length = 32768 then some .k32
  else if length = 2097152 then some .m2
  else none

/-- The payload offset a cartridge address `c = a - 0x8000` shows (20_memory R94, R95, R96). -/
def CartSize.offset (size : CartSize) (cartBank : BitVec 7) (c : Nat) : Nat :=
  match size with
  | .k8 => c % 0x2000
  | .k32 => c % 0x8000
  | .m2 => if 0x4000 ≤ c then 0x7F * 0x4000 + c % 0x4000 else cartBank.toNat * 0x4000 + c % 0x4000

/-! ### The address decode -/

/-- The video window at offset `o` (20_memory R85 to R88). -/
def Bus.locateVideo (b : Bus) (o : Nat) : Loc :=
  if b.windowMode = 0 then .fb (b.fbSelect.toNat * 0x4000 + o)
  else if b.windowMode = 2 then .vram (b.vramBank.toNat * 0x10000 + b.vramIndex o)
  else .blit (o % 2 ^ b.map.blitIndexBits.val)

/-- The address decode (20_memory R79): the physical byte behind an address, none where it is unmapped (R91). -/
def Bus.locate (b : Bus) (a : Addr) : Option Loc :=
  let n := a.toNat
  if n ≤ 0x1FFF then some (.ram (b.ramBank.toNat * 0x2000 + n))
  else if h : 0x2000 ≤ n ∧ n ≤ 0x2009 then some (.sysctl ⟨n - 0x2000, by omega⟩)
  else if h : 0x2800 ≤ n ∧ n ≤ 0x280F then some (.via ⟨n - 0x2800, by omega⟩)
  else if 0x3000 ≤ n ∧ n ≤ 0x3FFF then some (.aram (n - 0x3000))
  else if 0x4000 ≤ n ∧ n ≤ 0x7FFF then some (b.locateVideo (n - 0x4000))
  else if 0x8000 ≤ n then some (.rom (b.cart.size.offset b.cartBank (n - 0x8000)))
  else none

/-- The byte stored at a physical location. -/
def Bus.peek (b : Bus) (l : Loc) : Byte :=
  match l with
  | .ram k => b.ram.get k
  | .sysctl k => b.sysctl.get k
  | .via k => b.via.get k
  | .aram k => b.aram.get k
  | .fb k => b.fb.get k
  | .vram k => b.vram.get k
  | .blit k => b.blit.get k
  | .rom k => b.cart.data.get k

/-- Replace the byte stored at a physical location. -/
def Bus.poke (b : Bus) (l : Loc) (v : Byte) : Bus :=
  match l with
  | .ram k => { b with ram := b.ram.set k v }
  | .sysctl k => { b with sysctl := b.sysctl.set k.val v }
  | .via k => { b with via := b.via.set k.val v }
  | .aram k => { b with aram := b.aram.set k v }
  | .fb k => { b with fb := b.fb.set k v }
  | .vram k => { b with vram := b.vram.set k v }
  | .blit k => { b with blit := b.blit.set k v }
  | .rom k => { b with cart := { b.cart with data := b.cart.data.set k v } }

/-! ### Reads -/

/-- `SysRead` (20_memory R81): the gamepad bytes; every other system-control register reads 0x00. -/
def Bus.sysRead (b : Bus) (l : Lines) (k : Fin 10) : Byte :=
  if k = b.map.pad1Idx then l.pad1 else if k = b.map.pad2Idx then l.pad2 else 0x00

/-- `BusRead(a)` (20_memory R79) under the input levels of the event. -/
def Bus.read (b : Bus) (l : Lines) (a : Addr) : Byte :=
  match b.locate a with
  | some (.sysctl k) => b.sysRead l k
  | some loc => b.peek loc
  | none => 0x00

/-- The report a read emits, if any (20_memory R81, R91). -/
def Bus.readReport (b : Bus) (a : Addr) : List Report :=
  match b.locate a with
  | some (.sysctl k) => if k = b.map.pad1Idx ∨ k = b.map.pad2Idx then [] else [.unbackedRead a]
  | some _ => []
  | none => [.unmappedRead a]

/-! ### Writes -/

/-- `ViaWrite` (20_memory R82, R83): a write to the output register first drives the bank shift register by the
bits that rose; every register then stores the byte. -/
def Bus.viaWrite (b : Bus) (k : Fin 16) (v : Byte) : Bus :=
  let edge := v &&& ~~~(b.via.get k)
  let sr := if edge.getLsbD b.map.srClockBit.val then
      (b.sr <<< 1) ||| (v.extractLsb' b.map.srDataBit.val 1).setWidth 8
    else b.sr
  let cartBank := if edge.getLsbD b.map.srLatchBit.val then sr.extractLsb' 0 7 else b.cartBank
  let driven := if k = b.map.viaOutOffset then { b with sr := sr, cartBank := cartBank } else b
  driven.poke (.via k) v

/-- A write in VRAM mode stores the byte and sets the dirty flag of its bank and quadrant (20_memory R87). -/
def Bus.vramWrite (b : Bus) (k : Nat) (v : Byte) : Bus :=
  let stored := b.poke (.vram k) v
  { stored with dirty := b.dirty.set (dirtyIndex b.vramBank b.quadrant).val true }

/-- `BusWrite(a, v)` (20_memory R79): cartridge and unmapped writes change nothing (R90, R91). -/
def Bus.write (b : Bus) (a : Addr) (v : Byte) : Bus :=
  match b.locate a with
  | some (.via k) => b.viaWrite k v
  | some (.vram k) => b.vramWrite k v
  | some (.rom _) => b
  | some loc => b.poke loc v
  | none => b

/-- The report a write emits, if any (20_memory R90, R91). -/
def Bus.writeReport (b : Bus) (a : Addr) (v : Byte) : List Report :=
  match b.locate a with
  | some (.rom _) => [.readOnlyWrite a v]
  | some _ => []
  | none => [.unmappedWrite a v]

/-! ### Well-formedness -/

/-- Every memory has its canonical form and holds keys of its own size only; the cartridge payload has the size of
its variant. -/
def Bus.wf (b : Bus) : Bool :=
  b.ram.wf 0x8000 && b.aram.wf 0x1000 && b.fb.wf 0x8000 && b.vram.wf 0x80000
    && b.blit.wf (2 ^ b.map.blitIndexBits.val) && b.cart.data.wf b.cart.size.bytes

/-- The invariant of the state's memories. -/
def State.wf (s : State) : Bool := s.bus.wf

end Sys2Proof.Machine
end

