-- ==== Sys2Proof/Machine/Flags.lean ====
section
/-! DEFINITION. The flag computations and the arithmetic of 44_alu, 45_rmw_bits and 46_transfer_stack_flags, each
a function of bytes and flags. -/

namespace Sys2Proof.Machine

/-- A Bool as the number 0 or 1. -/
def bitNat (b : Bool) : Nat := if b then 1 else 0

/-! ### P as a byte -/

/-- P read as a byte: N V 1 B D I Z C (10_state R35). -/
def Flags.toByte (p : Flags) (brk : Bool) : Byte :=
  BitVec.ofBool p.n ++ BitVec.ofBool p.v ++ (1#1 ++ BitVec.ofBool brk)
    ++ (BitVec.ofBool p.d ++ BitVec.ofBool p.i) ++ (BitVec.ofBool p.z ++ BitVec.ofBool p.c)

/-- A byte written into P: bits 5 and 4 are discarded (10_state R35). -/
def Flags.ofByte (v : Byte) : Flags where
  n := v.getLsbD 7
  v := v.getLsbD 6
  d := v.getLsbD 3
  i := v.getLsbD 2
  z := v.getLsbD 1
  c := v.getLsbD 0

/-! ### Helpers of 44_alu -/

/-- `SetNZ(v)` (44_alu R300). -/
def Flags.setNZ (p : Flags) (v : Byte) : Flags :=
  { p with n := v.getLsbD 7, z := v == 0x00 }

/-- The V of an addition: same-sign operands, a result of the other sign (44_alu R301). -/
def addOverflow (a b r : Byte) : Bool := (~~~(a ^^^ b) &&& (a ^^^ r)).getLsbD 7

/-- The V of a subtraction: operands of different sign, a result whose sign differs from `a` (44_alu R303). -/
def subOverflow (a b r : Byte) : Bool := ((a ^^^ b) &&& (a ^^^ r)).getLsbD 7

/-- `AddBinary` (44_alu R301). -/
def addBinary (a b : Byte) (p : Flags) : Byte × Flags :=
  let r := a.toNat + b.toNat + bitNat p.c
  let res : Byte := BitVec.ofNat 8 r
  (res, { p with c := decide (r > 0xFF), v := addOverflow a b res }.setNZ res)

/-- The low-digit sum of `AddDecimal`, with its carry into the high digit (44_alu R302, `al`). -/
def addDecimalLow (a b : Byte) (c : Bool) : Nat :=
  let al := a.toNat % 16 + b.toNat % 16 + bitNat c
  if 0x0A ≤ al then (al + 0x06) % 16 + 0x10 else al

/-- `AddDecimal` (44_alu R302). -/
def addDecimal (a b : Byte) (p : Flags) : Byte × Flags :=
  let al := addDecimalLow a b p.c
  let r := (a &&& 0xF0).toNat + (b &&& 0xF0).toNat + al
  let s : Int := (a &&& 0xF0).toInt + (b &&& 0xF0).toInt + al
  let r' := if 0xA0 ≤ r then r + 0x60 else r
  let res : Byte := BitVec.ofNat 8 r'
  (res, { p with c := decide (0x100 ≤ r'), v := decide (s < -128 ∨ s > 127) }.setNZ res)

/-- The binary difference of `SubBinary` and `SubDecimal`, an integer (44_alu R303, R304). -/
def subDifference (a b : Byte) (c : Bool) : Int := (a.toNat : Int) - b.toNat - (1 - bitNat c)

/-- `SubBinary` (44_alu R303). -/
def subBinary (a b : Byte) (p : Flags) : Byte × Flags :=
  let r := subDifference a b p.c
  let res : Byte := BitVec.ofInt 8 r
  (res, { p with c := decide (0 ≤ r), v := subOverflow a b res }.setNZ res)

/-- `SubDecimal` (44_alu R304): C and V as in binary mode, N and Z from the corrected result. -/
def subDecimal (a b : Byte) (p : Flags) : Byte × Flags :=
  let r := subDifference a b p.c
  let al : Int := (a.toNat % 16 : Nat) - (b.toNat % 16 : Nat) + bitNat p.c - 1
  let r1 := if r < 0 then r - 0x60 else r
  let r2 := if al < 0 then r1 - 0x06 else r1
  let res : Byte := BitVec.ofInt 8 r2
  (res, { p with c := decide (0 ≤ r), v := subOverflow a b (BitVec.ofInt 8 r) }.setNZ res)

/-- `Compare(reg, m)` (44_alu R305). -/
def Flags.compare (p : Flags) (reg m : Byte) : Flags :=
  { p with c := decide (m.toNat ≤ reg.toNat), n := (reg - m).getLsbD 7, z := reg == m }

/-- The flags of BIT with a memory operand (44_alu R314). -/
def Flags.bitMemory (p : Flags) (a m : Byte) : Flags :=
  { p with z := (a &&& m) == 0x00, n := m.getLsbD 7, v := m.getLsbD 6 }

/-- The flags of BIT #imm: Z only (44_alu R314). -/
def Flags.bitImmediate (p : Flags) (a m : Byte) : Flags :=
  { p with z := (a &&& m) == 0x00 }

/-- AND, ORA and EOR: the result with N and Z (44_alu R308, R309, R310). -/
def logicResult (r : Byte) (p : Flags) : Byte × Flags := (r, p.setNZ r)

/-! ### Functions of the read-modify-write protocol (45_rmw_bits) -/

/-- ASL (45_rmw_bits R331). -/
def aslByte (v : Byte) (p : Flags) : Byte × Flags :=
  let r := v <<< 1
  (r, { p with c := v.getLsbD 7 }.setNZ r)

/-- LSR (45_rmw_bits R332). -/
def lsrByte (v : Byte) (p : Flags) : Byte × Flags :=
  let r := v >>> 1
  (r, { p with c := v.getLsbD 0 }.setNZ r)

/-- ROL (45_rmw_bits R333): the incoming carry is the C of the start of the step. -/
def rolByte (v : Byte) (p : Flags) : Byte × Flags :=
  let r := (v <<< 1) ||| (BitVec.ofBool p.c).setWidth 8
  (r, { p with c := v.getLsbD 7 }.setNZ r)

/-- ROR (45_rmw_bits R334). -/
def rorByte (v : Byte) (p : Flags) : Byte × Flags :=
  let r := (v >>> 1) ||| ((BitVec.ofBool p.c).setWidth 8 <<< 7)
  (r, { p with c := v.getLsbD 0 }.setNZ r)

/-- INC (45_rmw_bits R335). -/
def incByte (v : Byte) (p : Flags) : Byte × Flags := (v + 1, p.setNZ (v + 1))

/-- DEC (45_rmw_bits R336). -/
def decByte (v : Byte) (p : Flags) : Byte × Flags := (v - 1, p.setNZ (v - 1))

/-- TSB (45_rmw_bits R341): Z from the old value. -/
def tsbByte (a v : Byte) (p : Flags) : Byte × Flags := (v ||| a, { p with z := (a &&& v) == 0x00 })

/-- TRB (45_rmw_bits R342): Z from the old value. -/
def trbByte (a v : Byte) (p : Flags) : Byte × Flags := (v &&& ~~~a, { p with z := (a &&& v) == 0x00 })

/-- RMBn (45_rmw_bits R343). -/
def rmbByte (n : Nat) (v : Byte) (p : Flags) : Byte × Flags := (v &&& ~~~((1 : Byte) <<< n), p)

/-- SMBn (45_rmw_bits R352). -/
def smbByte (n : Nat) (v : Byte) (p : Flags) : Byte × Flags := (v ||| ((1 : Byte) <<< n), p)

end Sys2Proof.Machine
end

