-- ==== Sys2Proof/Machine/Ops.lean ====
section
/-! DEFINITION. The operations every step is made of: events and their clocking (20_memory R70 to R73, R108), the
NMI edge detector (10_state R39), instruction fetch, the stack, the interrupt sample (41_accessors R213, R214),
taking an exception and returning from one (60_exceptions R459, R464; 47_control_system R423, R424), the wait,
halted and reset steps (41_accessors R217, R220; 70_reset R500), construction and the agents between steps. -/

namespace Sys2Proof.Machine

/-! ### Inputs -/

/-- The input levels during the `k`-th event from now, given the present levels and the levels to come; a stream
that has run out holds its last levels (10_state R50; notes/assumptions/6.md). -/
def levelsAfter : Lines → List Lines → Nat → Lines
  | now, _, 0 => now
  | now, [], _ + 1 => now
  | _, next :: rest, k + 1 => levelsAfter next rest k

/-- The input levels during the `k`-th event from this state on; 0 is the latest event. -/
def State.linesAt (s : State) (k : Nat) : Lines := levelsAfter s.lines s.inputs k

/-- The byte a read of `a` returns if it is the `k`-th event from this state on and no write comes before it. -/
def State.byteAt (s : State) (k : Nat) (a : Addr) : Byte := s.bus.read (s.linesAt k) a

/-! ### One field each -/

def State.setA (s : State) (v : Byte) : State := { s with a := v }
def State.setX (s : State) (v : Byte) : State := { s with x := v }
def State.setY (s : State) (v : Byte) : State := { s with y := v }
def State.setSp (s : State) (v : Byte) : State := { s with sp := v }
def State.setPc (s : State) (v : Addr) : State := { s with pc := v }
def State.setP (s : State) (v : Flags) : State := { s with p := v }
def State.setBus (s : State) (b : Bus) : State := { s with bus := b }
def State.setPending (s : State) (v : Bool) : State := { s with pending := v }
def State.setNmiEdge (s : State) (v : Bool) : State := { s with nmiEdge := v }
def State.setNmiPrev (s : State) (v : Bool) : State := { s with nmiPrev := v }
def State.setWaiting (s : State) (v : Bool) : State := { s with waiting := v }
def State.setStopped (s : State) (v : Bool) : State := { s with stopped := v }
def State.setOutcome (s : State) (o : StepOutcome) : State := { s with outcome := o }
def State.setResetRequest (s : State) (v : Bool) : State := { s with resetRequest := v }

/-! ### Events -/

/-- One event: one cycle (20_memory R71), the NMI edge detector (10_state R39), the event record (R70) with its
reports (R92), and what `EdgeCheck` would sample after it (41_accessors R213). -/
def State.tick (s : State) (e : Event) (rs : List Report) : State :=
  let now := s.linesAt 1
  let edge := s.nmiEdge || (now.nmi && !s.nmiPrev)
  { s with
    cycles := s.cycles + 1
    lines := now
    inputs := s.inputs.tail
    nmiEdge := edge
    nmiPrev := now.nmi
    trace := s.trace ++ [e]
    samples := s.samples ++ [edge || (now.irq && !s.p.i)]
    reports := s.reports ++ rs }

/-- `Idle()` (20_memory R108). -/
def State.idle (s : State) : State := s.tick .idle []

/-- The byte a read event of `a` returns now. -/
def State.readByte (s : State) (a : Addr) : Byte := s.byteAt 1 a

/-- A read event of kind `kind` at `a` (20_memory R70, R73). -/
def State.readEvent (s : State) (kind : ReadKind) (a : Addr) : State :=
  s.tick (.read kind a (s.readByte a)) (s.bus.readReport a)

/-- A write event of kind `kind` (20_memory R70, R73). -/
def State.writeEvent (s : State) (kind : WriteKind) (a : Addr) (v : Byte) : State :=
  (s.setBus (s.bus.write a v)).tick (.write kind a v) (s.bus.writeReport a v)

/-- `Fetch()`: an Operand event at PC, then PC + 1 (10_state R34). `v` is the instruction's byte there, which the
step has decoded from the same memory at the same event (notes/assumptions/13.md). -/
def State.fetchByte (s : State) (v : Byte) : State :=
  (s.tick (.read .operand s.pc v) (s.bus.readReport s.pc)).setPc (s.pc + 1)

/-- `Push(v)` (10_state R33): write, then S - 1. -/
def State.push (s : State) (v : Byte) : State :=
  (s.writeEvent .data (stackAddr s.sp) v).setSp (s.sp - 1)

/-- The byte `Pull()` returns (10_state R33). -/
def State.pulled (s : State) : Byte := s.readByte (stackAddr (s.sp + 1))

/-- `Pull()` (10_state R33): S + 1, then read. -/
def State.pull (s : State) : State :=
  (s.setSp (s.sp + 1)).readEvent .data (stackAddr (s.sp + 1))

/-- PC from the two bytes at a vector, low byte first (60_exceptions R460). -/
def State.loadPc (s : State) (vector : Addr) : State :=
  let lo := s.readByte vector
  let s1 := s.readEvent .pointer vector
  let hi := s1.readByte (vector + 1)
  (s1.readEvent .pointer (vector + 1)).setPc (joinBytes hi lo)

/-! ### Step frame and interrupt sample -/

/-- The start of a step: no events yet. -/
def State.beginStep (s : State) (o : StepOutcome) : State :=
  { s with trace := [], samples := [], outcome := o }

/-- The opcode event of an instruction step (41_accessors R207, R208). -/
def State.opcode (s : State) (op : Byte) : State := (s.beginStep (.executed op)).fetchByte op

/-- The opcode event of a refused step: PC and the cycle count move on by one, and nothing is sampled
(41_accessors R217, R219). -/
def State.refusedFetch (s : State) (op : Byte) : State := (s.beginStep (.refused op)).fetchByte op

/-- `EdgeCheck(k)` (41_accessors R213): the sample of event `k` is ORed into the pending latch. -/
def State.edgeCheck (s : State) (k : Nat) : State :=
  s.setPending (s.pending || s.samples.getD (k - 1) false)

/-- The standard sample point `max(T - 1, 1)` of a step of T events (41_accessors R214). -/
def State.standardSample (s : State) : State := s.edgeCheck (max (s.samples.length - 1) 1)

/-! ### Taking an exception and returning from one -/

/-- I and D as BRK and interrupt entry leave them (41_accessors R210). -/
def Flags.handlerEntry (p : Flags) : Flags := { p with i := true, d := false }

/-- Taking an exception (60_exceptions R459, 47_control_system R424): PCH, PCL and P are pushed; the vector is
chosen after PCL is pushed, the NMI vector if an NMI edge is latched and this is no BRK, which clears the edge
(R461); I and D change at the push of P (41_accessors R210); PC comes from the vector. Answers the vector too. -/
def State.takeException (s : State) (brk : Bool) : Addr × State :=
  let s1 := s.push (hiByte s.pc)
  let s2 := s1.push (loByte s1.pc)
  let nmi := s2.nmiEdge && !brk
  let s3 := s2.setNmiEdge (s2.nmiEdge && !nmi)
  let s4 := (s3.setP s3.p.handlerEntry).push (s3.p.toByte brk)
  let vector : Addr := if nmi then 0xFFFA else 0xFFFE
  (vector, s4.loadPc vector)

/-- The pulls of RTI (47_control_system R423): P, which takes effect with its own event (41_accessors R210), then
PCL and PCH. -/
def State.returnFromException (s : State) : State :=
  let s1 := (s.setP (Flags.ofByte s.pulled)).pull
  let lo := s1.pulled
  let s2 := s1.pull
  let hi := s2.pulled
  s2.pull.setPc (joinBytes hi lo)

/-! ### The steps that run no instruction -/

/-- `InterruptEntry` (60_exceptions R459). It makes no EdgeCheck. -/
def State.interruptEntry (s : State) : State :=
  let s0 := (((s.beginStep (.interrupt 0xFFFE)).setPending false).setWaiting false).idle.idle
  let taken := s0.takeException false
  taken.2.setOutcome (.interrupt taken.1)

/-- `WaitStep` (41_accessors R220). -/
def State.waitStep (s : State) : State :=
  let s1 := (s.beginStep .wait).idle
  if s1.lines.irq || s1.nmiEdge then (s1.setWaiting false).edgeCheck 1 else s1

/-- The halted step (41_accessors R217): no event. -/
def State.haltStep (s : State) : State := s.beginStep .halted

/-- I and D as reset leaves them; the other flags stay (70_reset R500, R501). -/
def Flags.afterReset (p : Flags) : Flags := { p with i := true, d := false }

/-- `Reset` (70_reset R500). -/
def State.resetStep (s : State) : State :=
  let s0 := { s.beginStep .reset with
    pending := false
    nmiEdge := false
    nmiPrev := false
    waiting := false
    stopped := false
    resetRequest := false
    p := s.p.afterReset }
  s0.idle.idle.idle.idle.idle.loadPc 0xFFFC

/-! ### Construction -/

/-- Construction with a raw payload (20_memory R93): the length selects the variant; any other length is fatal.
The reset step follows it (70_reset R500). -/
def State.construct (payload : List Byte) : Result :=
  match cartSizeOf payload.length with
  | some size => .next { State.powerOn ⟨size, Memory.ofBytes payload⟩ with resetRequest := true }
  | none => .fault (.cartSize payload.length)

/-! ### Agents between steps -/

/-- What one action of an agent outside CORE changes (20_memory R100; notes/assumptions/7.md). -/
def State.applyAction (s : State) (act : AgentAction) : State :=
  match act with
  | .acpWrite o v => s.setBus (s.bus.poke (.aram o.toNat) v)
  | .blitterVram b i v => s.setBus (s.bus.poke (.vram (b.toNat * 0x10000 + i.toNat)) v)
  | .blitterFb f o v => s.setBus (s.bus.poke (.fb (f.toNat * 0x4000 + o.toNat)) v)
  | .setQuadrant q => s.setBus { s.bus with quadrant := q }
  | .clearDirty k => s.setBus { s.bus with dirty := s.bus.dirty.set k.val false }
  | .clearCycles => { s with cycles := 0 }
  | .requestReset => s.setResetRequest true

/-- What happens between two steps: the next batch of agent actions, if any is scheduled (20_memory R100,
41_accessors R221). -/
def State.betweenSteps (s : State) : State :=
  match s.agents with
  | [] => s
  | batch :: rest => batch.foldl State.applyAction { s with agents := rest }

end Sys2Proof.Machine
end

