-- ==== Sys2Proof/Machine/Operands.lean ====
section
/-! DEFINITION. The addressing-mode engine (40_addressing R160 to R185), the operand accessors (41_accessors R200
to R206) and the frames of an instruction step by access class. -/

namespace Sys2Proof.Machine

/-- The addressing modes with their operands (40_addressing R163 to R180). `slow` tells the slow variant of absx,
absy and izy from the fast one (R162). -/
inductive Mode where
  | imp
  | acc
  | stk
  | nop1
  | imm (v : Byte)
  | zp (z : Byte)
  | zpx (z : Byte)
  | zpy (z : Byte)
  | abs (a : Addr)
  | absx (a : Addr) (slow : Bool)
  | absy (a : Addr) (slow : Bool)
  | izx (z : Byte)
  | izy (z : Byte) (slow : Bool)
  | izp (z : Byte)
  | ind (a : Addr)
  | iax (a : Addr)
  | rel (off : Int)
  | zpr (z : Byte) (off : Int)
  | jsr (lo : Byte)
  | brk (sig : Byte)
deriving DecidableEq, Repr

/-! ### Effective addresses

Every function below is applied to the state right after the opcode event; `byteAt k` is the byte the k-th event
after it reads. -/

/-- A zero-page pointer whose two bytes are read by events `k` and `k + 1`; the second address wraps within the zero
page (20_memory R75, 40_addressing R183). -/
def State.zpPointer (s : State) (k : Nat) (p : Byte) : Addr :=
  joinBytes (s.byteAt (k + 1) (zext16 (p + 1))) (s.byteAt k (zext16 p))

/-- An absolute pointer whose two bytes are read by events `k` and `k + 1`; the second address carries
(20_memory R75). -/
def State.absPointer (s : State) (k : Nat) (p : Addr) : Addr :=
  joinBytes (s.byteAt (k + 1) (p + 1)) (s.byteAt k p)

/-- The base address of an indexed mode (40_addressing R171, R172, R174). -/
def Mode.base (m : Mode) (s : State) : Addr :=
  match m with
  | .absx a _ => a
  | .absy a _ => a
  | .izy z _ => s.zpPointer 2 z
  | _ => 0

/-- The effective address EA of a mode that has one (40_addressing R168 to R177). -/
def Mode.address (m : Mode) (s : State) : Addr :=
  match m with
  | .zp z => zext16 z
  | .zpx z => zext16 (z + s.x)
  | .zpy z => zext16 (z + s.y)
  | .abs a => a
  | .absx a _ => a + zext16 s.x
  | .absy a _ => a + zext16 s.y
  | .izx z => s.zpPointer 3 (z + s.x)
  | .izy z _ => s.zpPointer 2 z + zext16 s.y
  | .izp z => s.zpPointer 2 z
  | .ind a => s.absPointer 4 a
  | .iax a => s.absPointer 4 (a + zext16 s.x)
  | _ => 0

/-- The branch target: the address of the next instruction plus the offset (40_addressing R178, R179). -/
def Mode.target (m : Mode) (s : State) : Addr :=
  match m with
  | .rel off => s.pc + 1 + sext16 off
  | .zpr _ off => s.pc + 2 + sext16 off
  | _ => 0

/-- The accessor a mode yields (40_addressing R181, 41_accessors R200). -/
def Mode.accessor (m : Mode) (s : State) : Accessor :=
  match m with
  | .imp | .stk | .nop1 | .jsr _ | .brk _ => .none
  | .acc => .regA
  | .imm v => .imm v
  | .zp _ | .zpx _ | .zpy _ | .abs _ | .absx _ _ | .absy _ _ | .izx _ | .izy _ _ | .izp _ | .ind _ | .iax _ =>
    .addr (m.address s)
  | .rel _ => .branch (m.target s)
  | .zpr z _ => .bitBranch (s.byteAt 2 (zext16 z)) (m.target s)

/-! ### Events of a fetch -/

/-- The index cycle: always in the slow variant, on a page crossing in the fast one (40_addressing R162). -/
def State.indexCycle (s : State) (slow crossed : Bool) : State := if slow || crossed then s.idle else s

/-- The two Pointer events of a zero-page pointer. -/
def State.zpPointerEvents (s : State) (p : Byte) : State :=
  (s.readEvent .pointer (zext16 p)).readEvent .pointer (zext16 (p + 1))

/-- The two Pointer events of an absolute pointer. -/
def State.absPointerEvents (s : State) (p : Addr) : State :=
  (s.readEvent .pointer p).readEvent .pointer (p + 1)

/-- The two Operand events of an absolute operand, low byte first (20_memory R74). -/
def State.fetchWord (s : State) (a : Addr) : State := (s.fetchByte (loByte a)).fetchByte (hiByte a)

/-- The events of a mode's fetch, in order (40_addressing R163 to R181). -/
def Mode.events (m : Mode) (s : State) : State :=
  match m with
  | .imp | .acc | .stk => s.idle
  | .nop1 => s
  | .imm v => s.fetchByte v
  | .zp z => s.fetchByte z
  | .zpx z | .zpy z => (s.fetchByte z).idle
  | .abs a => s.fetchWord a
  | .absx a slow | .absy a slow => (s.fetchWord a).indexCycle slow (pageCrossed (m.base s) (m.address s))
  | .izx z => (s.fetchByte z).idle.zpPointerEvents (z + s.x)
  | .izy z slow =>
    ((s.fetchByte z).zpPointerEvents z).indexCycle slow (pageCrossed (m.base s) (m.address s))
  | .izp z => (s.fetchByte z).zpPointerEvents z
  | .ind a => (s.fetchWord a).idle.absPointerEvents a
  | .iax a => (s.fetchWord a).idle.absPointerEvents (a + zext16 s.x)
  | .rel off => s.fetchByte (offsetByte off)
  | .zpr z off => (((s.fetchByte z).readEvent .data (zext16 z)).idle).fetchByte (offsetByte off)
  | .jsr lo => s.fetchByte lo
  | .brk sig => s.fetchByte sig

/-! ### Accessor operations -/

/-- The fault of an operation a variant does not support (41_accessors R205). -/
def accessorFault (op : AccessorOp) (acc : Accessor) : Fault :=
  match acc with
  | .null => .nullAccessor op
  | acc => .capability op acc

/-- `ReadOp` (41_accessors R201). -/
def readOp (acc : Accessor) (s : State) : Except Fault (Byte × State) :=
  match acc with
  | .imm v => .ok (v, s)
  | .regA => .ok (s.a, s)
  | .bitBranch tested _ => .ok (tested, s)
  | .addr ea => .ok (s.readByte ea, s.readEvent .data ea)
  | acc => .error (accessorFault .read acc)

/-- `WriteOp` (41_accessors R202). -/
def writeOp (acc : Accessor) (v : Byte) (s : State) : Except Fault State :=
  match acc with
  | .addr ea => .ok (s.writeEvent .data ea v)
  | .regA => .ok (s.setA v)
  | acc => .error (accessorFault .write acc)

/-- The three locked events of `RmwOp` on memory: read, rewrite of the unmodified value, final write
(41_accessors R203). The flags of `f` are applied after the last event. -/
def State.rmwMemory (s : State) (ea : Addr) (f : Byte → Flags → Byte × Flags) : State :=
  let v := s.readByte ea
  let result := f v s.p
  (((s.readEvent .locked ea).writeEvent .locked ea v).writeEvent .locked ea result.1).setP result.2

/-- `RmwOp` on the accumulator: no event (41_accessors R203). -/
def State.rmwAccumulator (s : State) (f : Byte → Flags → Byte × Flags) : State :=
  let result := f s.a s.p
  (s.setA result.1).setP result.2

/-- `RmwOp` (41_accessors R203). -/
def rmwOp (acc : Accessor) (f : Byte → Flags → Byte × Flags) (s : State) : Except Fault State :=
  match acc with
  | .addr ea => .ok (s.rmwMemory ea f)
  | .regA => .ok (s.rmwAccumulator f)
  | acc => .error (accessorFault .rmw acc)

/-- The effective address of an accessor that has one (41_accessors R200). -/
def effectiveAddress (acc : Accessor) : Except Fault Addr :=
  match acc with
  | .addr ea => .ok ea
  | acc => .error (accessorFault .effectiveAddress acc)

/-- `BranchOp` with the sample points of a branch (41_accessors R204, R215; 42_branches R240, R241). `s` is the
state after the fetch, so its event count is B and its PC the address of the next instruction. -/
def State.branchTo (s : State) (target : Addr) (taken : Bool) : State :=
  let b := s.samples.length
  let s1 := s.edgeCheck (b - 1)
  if taken then
    if pageCrossed s.pc target then (s1.idle.idle.edgeCheck (b + 1)).setPc target else s1.idle.setPc target
  else s1

/-- `BranchOp` (41_accessors R204). -/
def branchOp (acc : Accessor) (taken : Bool) (s : State) : Except Fault State :=
  match acc with
  | .branch target => .ok (s.branchTo target taken)
  | .bitBranch _ target => .ok (s.branchTo target taken)
  | acc => .error (accessorFault .branch acc)

/-! ### Instruction steps by access class (41_accessors R206, R207) -/

/-- The frame of an instruction step: the opcode event, the mode's fetch, the operation on its accessor. -/
def runInstr (op : Byte) (m : Mode) (body : Accessor → State → Except Fault State) (s : State) : Result :=
  let s1 := s.opcode op
  match body (m.accessor s1) (m.events s1) with
  | .ok t => .next t
  | .error f => .fault f

/-- Class read: `ReadOp` once, then `use` on the byte. -/
def readInstr (op : Byte) (m : Mode) (use : Byte → State → State) (s : State) : Result :=
  runInstr op m (fun acc s1 => (readOp acc s1).map (fun r => (use r.1 r.2).standardSample)) s

/-- Class write: `WriteOp` once. -/
def writeInstr (op : Byte) (m : Mode) (v : Byte) (s : State) : Result :=
  runInstr op m (fun acc s1 => (writeOp acc v s1).map State.standardSample) s

/-- Classes rmw and register-rmw: `RmwOp` once. -/
def rmwInstr (op : Byte) (m : Mode) (f : Byte → Flags → Byte × Flags) (s : State) : Result :=
  runInstr op m (fun acc s1 => (rmwOp acc f s1).map State.standardSample) s

/-- Class branch: `BranchOp` under a condition on the flags. -/
def branchInstr (op : Byte) (off : Int) (cond : Flags → Bool) (s : State) : Result :=
  runInstr op (.rel off) (fun acc s1 => branchOp acc (cond s1.p) s1) s

/-- Class bit-branch: `ReadOp`, which makes no event, and `BranchOp` under a condition on the byte. -/
def bitBranchInstr (op z : Byte) (off : Int) (cond : Byte → Bool) (s : State) : Result :=
  runInstr op (.zpr z off) (fun acc s1 => (readOp acc s1).bind (fun r => branchOp acc (cond r.1) r.2)) s

/-- A jump: PC takes the effective address. -/
def jumpInstr (op : Byte) (m : Mode) (s : State) : Result :=
  runInstr op m (fun acc s1 => (effectiveAddress acc).map (fun ea => (s1.setPc ea).standardSample)) s

/-- Class none: the events after the fetch are the instruction's own. -/
def plainInstr (op : Byte) (m : Mode) (rest : State → State) (s : State) : Result :=
  runInstr op m (fun _ s1 => .ok (rest s1).standardSample) s

end Sys2Proof.Machine
end

