-- ==== Sys2Proof/Machine/Alu.lean ====
section
/-! DEFINITION. Arithmetic, logic, compare and bit test (44_alu R306 to R314). Results are applied after the
last event (41_accessors R209). -/

namespace Sys2Proof.Machine

/-- ADC on an operand byte: one idle cycle more in decimal mode (44_alu R306). -/
def adcWith (m : Byte) (s : State) : State :=
  let r := if s.p.d then addDecimal s.a m s.p else addBinary s.a m s.p
  ((if s.p.d then s.idle else s).setA r.1).setP r.2

/-- SBC on an operand byte: one idle cycle more in decimal mode (44_alu R307). -/
def sbcWith (m : Byte) (s : State) : State :=
  let r := if s.p.d then subDecimal s.a m s.p else subBinary s.a m s.p
  ((if s.p.d then s.idle else s).setA r.1).setP r.2

/-- AND on an operand byte (44_alu R308). -/
def andWith (m : Byte) (s : State) : State :=
  let r := logicResult (s.a &&& m) s.p
  (s.setA r.1).setP r.2

/-- ORA on an operand byte (44_alu R309). -/
def oraWith (m : Byte) (s : State) : State :=
  let r := logicResult (s.a ||| m) s.p
  (s.setA r.1).setP r.2

/-- EOR on an operand byte (44_alu R310). -/
def eorWith (m : Byte) (s : State) : State :=
  let r := logicResult (s.a ^^^ m) s.p
  (s.setA r.1).setP r.2

/-- CMP on an operand byte (44_alu R311). -/
def cmpWith (m : Byte) (s : State) : State := s.setP (s.p.compare s.a m)

/-- CPX on an operand byte (44_alu R312). -/
def cpxWith (m : Byte) (s : State) : State := s.setP (s.p.compare s.x m)

/-- CPY on an operand byte (44_alu R313). -/
def cpyWith (m : Byte) (s : State) : State := s.setP (s.p.compare s.y m)

/-- BIT on a memory byte (44_alu R314). -/
def bitWith (m : Byte) (s : State) : State := s.setP (s.p.bitMemory s.a m)

/-- BIT #imm (44_alu R314). -/
def bitImmWith (m : Byte) (s : State) : State := s.setP (s.p.bitImmediate s.a m)

/-- ADC (zp,X), opcode 0x61 (44_alu R306). -/
def execAdcIzx (z : Byte) (s : State) : Result :=
  readInstr 0x61 (.izx z) adcWith s

/-- ADC zp, opcode 0x65 (44_alu R306). -/
def execAdcZp (z : Byte) (s : State) : Result :=
  readInstr 0x65 (.zp z) adcWith s

/-- ADC #imm, opcode 0x69 (44_alu R306). -/
def execAdcImm (v : Byte) (s : State) : Result :=
  readInstr 0x69 (.imm v) adcWith s

/-- ADC abs, opcode 0x6D (44_alu R306). -/
def execAdcAbs (a : Addr) (s : State) : Result :=
  readInstr 0x6D (.abs a) adcWith s

/-- ADC (zp),Y, opcode 0x71 (44_alu R306). -/
def execAdcIzy (z : Byte) (s : State) : Result :=
  readInstr 0x71 (.izy z false) adcWith s

/-- ADC (zp), opcode 0x72 (44_alu R306). -/
def execAdcIzp (z : Byte) (s : State) : Result :=
  readInstr 0x72 (.izp z) adcWith s

/-- ADC zp,X, opcode 0x75 (44_alu R306). -/
def execAdcZpx (z : Byte) (s : State) : Result :=
  readInstr 0x75 (.zpx z) adcWith s

/-- ADC abs,Y, opcode 0x79 (44_alu R306). -/
def execAdcAbsy (a : Addr) (s : State) : Result :=
  readInstr 0x79 (.absy a false) adcWith s

/-- ADC abs,X, opcode 0x7D (44_alu R306). -/
def execAdcAbsx (a : Addr) (s : State) : Result :=
  readInstr 0x7D (.absx a false) adcWith s

/-- SBC (zp,X), opcode 0xE1 (44_alu R307). -/
def execSbcIzx (z : Byte) (s : State) : Result :=
  readInstr 0xE1 (.izx z) sbcWith s

/-- SBC zp, opcode 0xE5 (44_alu R307). -/
def execSbcZp (z : Byte) (s : State) : Result :=
  readInstr 0xE5 (.zp z) sbcWith s

/-- SBC #imm, opcode 0xE9 (44_alu R307). -/
def execSbcImm (v : Byte) (s : State) : Result :=
  readInstr 0xE9 (.imm v) sbcWith s

/-- SBC abs, opcode 0xED (44_alu R307). -/
def execSbcAbs (a : Addr) (s : State) : Result :=
  readInstr 0xED (.abs a) sbcWith s

/-- SBC (zp),Y, opcode 0xF1 (44_alu R307). -/
def execSbcIzy (z : Byte) (s : State) : Result :=
  readInstr 0xF1 (.izy z false) sbcWith s

/-- SBC (zp), opcode 0xF2 (44_alu R307). -/
def execSbcIzp (z : Byte) (s : State) : Result :=
  readInstr 0xF2 (.izp z) sbcWith s

/-- SBC zp,X, opcode 0xF5 (44_alu R307). -/
def execSbcZpx (z : Byte) (s : State) : Result :=
  readInstr 0xF5 (.zpx z) sbcWith s

/-- SBC abs,Y, opcode 0xF9 (44_alu R307). -/
def execSbcAbsy (a : Addr) (s : State) : Result :=
  readInstr 0xF9 (.absy a false) sbcWith s

/-- SBC abs,X, opcode 0xFD (44_alu R307). -/
def execSbcAbsx (a : Addr) (s : State) : Result :=
  readInstr 0xFD (.absx a false) sbcWith s

/-- AND (zp,X), opcode 0x21 (44_alu R308). -/
def execAndIzx (z : Byte) (s : State) : Result :=
  readInstr 0x21 (.izx z) andWith s

/-- AND zp, opcode 0x25 (44_alu R308). -/
def execAndZp (z : Byte) (s : State) : Result :=
  readInstr 0x25 (.zp z) andWith s

/-- AND #imm, opcode 0x29 (44_alu R308). -/
def execAndImm (v : Byte) (s : State) : Result :=
  readInstr 0x29 (.imm v) andWith s

/-- AND abs, opcode 0x2D (44_alu R308). -/
def execAndAbs (a : Addr) (s : State) : Result :=
  readInstr 0x2D (.abs a) andWith s

/-- AND (zp),Y, opcode 0x31 (44_alu R308). -/
def execAndIzy (z : Byte) (s : State) : Result :=
  readInstr 0x31 (.izy z false) andWith s

/-- AND (zp), opcode 0x32 (44_alu R308). -/
def execAndIzp (z : Byte) (s : State) : Result :=
  readInstr 0x32 (.izp z) andWith s

/-- AND zp,X, opcode 0x35 (44_alu R308). -/
def execAndZpx (z : Byte) (s : State) : Result :=
  readInstr 0x35 (.zpx z) andWith s

/-- AND abs,Y, opcode 0x39 (44_alu R308). -/
def execAndAbsy (a : Addr) (s : State) : Result :=
  readInstr 0x39 (.absy a false) andWith s

/-- AND abs,X, opcode 0x3D (44_alu R308). -/
def execAndAbsx (a : Addr) (s : State) : Result :=
  readInstr 0x3D (.absx a false) andWith s

/-- ORA (zp,X), opcode 0x01 (44_alu R309). -/
def execOraIzx (z : Byte) (s : State) : Result :=
  readInstr 0x01 (.izx z) oraWith s

/-- ORA zp, opcode 0x05 (44_alu R309). -/
def execOraZp (z : Byte) (s : State) : Result :=
  readInstr 0x05 (.zp z) oraWith s

/-- ORA #imm, opcode 0x09 (44_alu R309). -/
def execOraImm (v : Byte) (s : State) : Result :=
  readInstr 0x09 (.imm v) oraWith s

/-- ORA abs, opcode 0x0D (44_alu R309). -/
def execOraAbs (a : Addr) (s : State) : Result :=
  readInstr 0x0D (.abs a) oraWith s

/-- ORA (zp),Y, opcode 0x11 (44_alu R309). -/
def execOraIzy (z : Byte) (s : State) : Result :=
  readInstr 0x11 (.izy z false) oraWith s

/-- ORA (zp), opcode 0x12 (44_alu R309). -/
def execOraIzp (z : Byte) (s : State) : Result :=
  readInstr 0x12 (.izp z) oraWith s

/-- ORA zp,X, opcode 0x15 (44_alu R309). -/
def execOraZpx (z : Byte) (s : State) : Result :=
  readInstr 0x15 (.zpx z) oraWith s

/-- ORA abs,Y, opcode 0x19 (44_alu R309). -/
def execOraAbsy (a : Addr) (s : State) : Result :=
  readInstr 0x19 (.absy a false) oraWith s

/-- ORA abs,X, opcode 0x1D (44_alu R309). -/
def execOraAbsx (a : Addr) (s : State) : Result :=
  readInstr 0x1D (.absx a false) oraWith s

/-- EOR (zp,X), opcode 0x41 (44_alu R310). -/
def execEorIzx (z : Byte) (s : State) : Result :=
  readInstr 0x41 (.izx z) eorWith s

/-- EOR zp, opcode 0x45 (44_alu R310). -/
def execEorZp (z : Byte) (s : State) : Result :=
  readInstr 0x45 (.zp z) eorWith s

/-- EOR #imm, opcode 0x49 (44_alu R310). -/
def execEorImm (v : Byte) (s : State) : Result :=
  readInstr 0x49 (.imm v) eorWith s

/-- EOR abs, opcode 0x4D (44_alu R310). -/
def execEorAbs (a : Addr) (s : State) : Result :=
  readInstr 0x4D (.abs a) eorWith s

/-- EOR (zp),Y, opcode 0x51 (44_alu R310). -/
def execEorIzy (z : Byte) (s : State) : Result :=
  readInstr 0x51 (.izy z false) eorWith s

/-- EOR (zp), opcode 0x52 (44_alu R310). -/
def execEorIzp (z : Byte) (s : State) : Result :=
  readInstr 0x52 (.izp z) eorWith s

/-- EOR zp,X, opcode 0x55 (44_alu R310). -/
def execEorZpx (z : Byte) (s : State) : Result :=
  readInstr 0x55 (.zpx z) eorWith s

/-- EOR abs,Y, opcode 0x59 (44_alu R310). -/
def execEorAbsy (a : Addr) (s : State) : Result :=
  readInstr 0x59 (.absy a false) eorWith s

/-- EOR abs,X, opcode 0x5D (44_alu R310). -/
def execEorAbsx (a : Addr) (s : State) : Result :=
  readInstr 0x5D (.absx a false) eorWith s

/-- CMP (zp,X), opcode 0xC1 (44_alu R311). -/
def execCmpIzx (z : Byte) (s : State) : Result :=
  readInstr 0xC1 (.izx z) cmpWith s

/-- CMP zp, opcode 0xC5 (44_alu R311). -/
def execCmpZp (z : Byte) (s : State) : Result :=
  readInstr 0xC5 (.zp z) cmpWith s

/-- CMP #imm, opcode 0xC9 (44_alu R311). -/
def execCmpImm (v : Byte) (s : State) : Result :=
  readInstr 0xC9 (.imm v) cmpWith s

/-- CMP abs, opcode 0xCD (44_alu R311). -/
def execCmpAbs (a : Addr) (s : State) : Result :=
  readInstr 0xCD (.abs a) cmpWith s

/-- CMP (zp),Y, opcode 0xD1 (44_alu R311). -/
def execCmpIzy (z : Byte) (s : State) : Result :=
  readInstr 0xD1 (.izy z false) cmpWith s

/-- CMP (zp), opcode 0xD2 (44_alu R311). -/
def execCmpIzp (z : Byte) (s : State) : Result :=
  readInstr 0xD2 (.izp z) cmpWith s

/-- CMP zp,X, opcode 0xD5 (44_alu R311). -/
def execCmpZpx (z : Byte) (s : State) : Result :=
  readInstr 0xD5 (.zpx z) cmpWith s

/-- CMP abs,Y, opcode 0xD9 (44_alu R311). -/
def execCmpAbsy (a : Addr) (s : State) : Result :=
  readInstr 0xD9 (.absy a false) cmpWith s

/-- CMP abs,X, opcode 0xDD (44_alu R311). -/
def execCmpAbsx (a : Addr) (s : State) : Result :=
  readInstr 0xDD (.absx a false) cmpWith s

/-- CPX #imm, opcode 0xE0 (44_alu R312). -/
def execCpxImm (v : Byte) (s : State) : Result :=
  readInstr 0xE0 (.imm v) cpxWith s

/-- CPX zp, opcode 0xE4 (44_alu R312). -/
def execCpxZp (z : Byte) (s : State) : Result :=
  readInstr 0xE4 (.zp z) cpxWith s

/-- CPX abs, opcode 0xEC (44_alu R312). -/
def execCpxAbs (a : Addr) (s : State) : Result :=
  readInstr 0xEC (.abs a) cpxWith s

/-- CPY #imm, opcode 0xC0 (44_alu R313). -/
def execCpyImm (v : Byte) (s : State) : Result :=
  readInstr 0xC0 (.imm v) cpyWith s

/-- CPY zp, opcode 0xC4 (44_alu R313). -/
def execCpyZp (z : Byte) (s : State) : Result :=
  readInstr 0xC4 (.zp z) cpyWith s

/-- CPY abs, opcode 0xCC (44_alu R313). -/
def execCpyAbs (a : Addr) (s : State) : Result :=
  readInstr 0xCC (.abs a) cpyWith s

/-- BIT zp, opcode 0x24 (44_alu R314). -/
def execBitZp (z : Byte) (s : State) : Result :=
  readInstr 0x24 (.zp z) bitWith s

/-- BIT abs, opcode 0x2C (44_alu R314). -/
def execBitAbs (a : Addr) (s : State) : Result :=
  readInstr 0x2C (.abs a) bitWith s

/-- BIT zp,X, opcode 0x34 (44_alu R314). -/
def execBitZpx (z : Byte) (s : State) : Result :=
  readInstr 0x34 (.zpx z) bitWith s

/-- BIT abs,X, opcode 0x3C (44_alu R314). -/
def execBitAbsx (a : Addr) (s : State) : Result :=
  readInstr 0x3C (.absx a false) bitWith s

/-- BIT #imm, opcode 0x89 (44_alu R314). -/
def execBitImm (v : Byte) (s : State) : Result :=
  readInstr 0x89 (.imm v) bitImmWith s

end Sys2Proof.Machine
end

