-- ==== Sys2Proof/Machine/Branch.lean ====
section
/-! DEFINITION. Branches and bit-test branches (42_branches R240 to R266). -/

namespace Sys2Proof.Machine

/-- BPL rel, opcode 0x10 (42_branches R242). -/
def execBpl (off : Int) (s : State) : Result :=
  branchInstr 0x10 off (fun p => !p.n) s

/-- BMI rel, opcode 0x30 (42_branches R243). -/
def execBmi (off : Int) (s : State) : Result :=
  branchInstr 0x30 off (fun p => p.n) s

/-- BVC rel, opcode 0x50 (42_branches R244). -/
def execBvc (off : Int) (s : State) : Result :=
  branchInstr 0x50 off (fun p => !p.v) s

/-- BVS rel, opcode 0x70 (42_branches R245). -/
def execBvs (off : Int) (s : State) : Result :=
  branchInstr 0x70 off (fun p => p.v) s

/-- BCC rel, opcode 0x90 (42_branches R246). -/
def execBcc (off : Int) (s : State) : Result :=
  branchInstr 0x90 off (fun p => !p.c) s

/-- BCS rel, opcode 0xB0 (42_branches R247). -/
def execBcs (off : Int) (s : State) : Result :=
  branchInstr 0xB0 off (fun p => p.c) s

/-- BNE rel, opcode 0xD0 (42_branches R248). -/
def execBne (off : Int) (s : State) : Result :=
  branchInstr 0xD0 off (fun p => !p.z) s

/-- BEQ rel, opcode 0xF0 (42_branches R249). -/
def execBeq (off : Int) (s : State) : Result :=
  branchInstr 0xF0 off (fun p => p.z) s

/-- BRA rel, opcode 0x80 (42_branches R250). -/
def execBra (off : Int) (s : State) : Result :=
  branchInstr 0x80 off (fun _ => true) s

/-- BBR0 zp,rel, opcode 0x0F (42_branches R251). -/
def execBbr0 (z : Byte) (off : Int) (s : State) : Result :=
  bitBranchInstr 0x0F z off (fun m => !m.getLsbD 0) s

/-- BBR1 zp,rel, opcode 0x1F (42_branches R252). -/
def execBbr1 (z : Byte) (off : Int) (s : State) : Result :=
  bitBranchInstr 0x1F z off (fun m => !m.getLsbD 1) s

/-- BBR2 zp,rel, opcode 0x2F (42_branches R253). -/
def execBbr2 (z : Byte) (off : Int) (s : State) : Result :=
  bitBranchInstr 0x2F z off (fun m => !m.getLsbD 2) s

/-- BBR3 zp,rel, opcode 0x3F (42_branches R254). -/
def execBbr3 (z : Byte) (off : Int) (s : State) : Result :=
  bitBranchInstr 0x3F z off (fun m => !m.getLsbD 3) s

/-- BBR4 zp,rel, opcode 0x4F (42_branches R255). -/
def execBbr4 (z : Byte) (off : Int) (s : State) : Result :=
  bitBranchInstr 0x4F z off (fun m => !m.getLsbD 4) s

/-- BBR5 zp,rel, opcode 0x5F (42_branches R256). -/
def execBbr5 (z : Byte) (off : Int) (s : State) : Result :=
  bitBranchInstr 0x5F z off (fun m => !m.getLsbD 5) s

/-- BBR6 zp,rel, opcode 0x6F (42_branches R257). -/
def execBbr6 (z : Byte) (off : Int) (s : State) : Result :=
  bitBranchInstr 0x6F z off (fun m => !m.getLsbD 6) s

/-- BBR7 zp,rel, opcode 0x7F (42_branches R258). -/
def execBbr7 (z : Byte) (off : Int) (s : State) : Result :=
  bitBranchInstr 0x7F z off (fun m => !m.getLsbD 7) s

/-- BBS0 zp,rel, opcode 0x8F (42_branches R259). -/
def execBbs0 (z : Byte) (off : Int) (s : State) : Result :=
  bitBranchInstr 0x8F z off (fun m => m.getLsbD 0) s

/-- BBS1 zp,rel, opcode 0x9F (42_branches R260). -/
def execBbs1 (z : Byte) (off : Int) (s : State) : Result :=
  bitBranchInstr 0x9F z off (fun m => m.getLsbD 1) s

/-- BBS2 zp,rel, opcode 0xAF (42_branches R261). -/
def execBbs2 (z : Byte) (off : Int) (s : State) : Result :=
  bitBranchInstr 0xAF z off (fun m => m.getLsbD 2) s

/-- BBS3 zp,rel, opcode 0xBF (42_branches R262). -/
def execBbs3 (z : Byte) (off : Int) (s : State) : Result :=
  bitBranchInstr 0xBF z off (fun m => m.getLsbD 3) s

/-- BBS4 zp,rel, opcode 0xCF (42_branches R263). -/
def execBbs4 (z : Byte) (off : Int) (s : State) : Result :=
  bitBranchInstr 0xCF z off (fun m => m.getLsbD 4) s

/-- BBS5 zp,rel, opcode 0xDF (42_branches R264). -/
def execBbs5 (z : Byte) (off : Int) (s : State) : Result :=
  bitBranchInstr 0xDF z off (fun m => m.getLsbD 5) s

/-- BBS6 zp,rel, opcode 0xEF (42_branches R265). -/
def execBbs6 (z : Byte) (off : Int) (s : State) : Result :=
  bitBranchInstr 0xEF z off (fun m => m.getLsbD 6) s

/-- BBS7 zp,rel, opcode 0xFF (42_branches R266). -/
def execBbs7 (z : Byte) (off : Int) (s : State) : Result :=
  bitBranchInstr 0xFF z off (fun m => m.getLsbD 7) s

end Sys2Proof.Machine
end

