-- ==== Sys2Proof/Machine/Control.lean ====
section
/-! DEFINITION. Jumps, calls, returns, BRK, WAI, STP and NOP (47_control_system R420 to R427). -/

namespace Sys2Proof.Machine

/-- JSR after its fetch of the low byte `lo`; the high byte is read from memory after the pushes (47_control R421). -/
def callSubroutine (lo : Byte) (s : State) : State :=
  let s1 := s.idle.push (hiByte s.pc)
  let s2 := s1.push (loByte s1.pc)
  (s2.readEvent .operand s2.pc).setPc (joinBytes (s2.readByte s2.pc) lo)

/-- RTS after its fetch (47_control R422). -/
def returnFromSubroutine (s : State) : State :=
  let s1 := s.idle
  let lo := s1.pulled
  let s2 := s1.pull
  let hi := s2.pulled
  s2.pull.idle.setPc (joinBytes hi lo + 1)

/-- JMP abs, opcode 0x4C (47_control R420). -/
def execJmpAbs (a : Addr) (s : State) : Result :=
  jumpInstr 0x4C (.abs a) s

/-- JMP (abs), opcode 0x6C (47_control R420). -/
def execJmpInd (a : Addr) (s : State) : Result :=
  jumpInstr 0x6C (.ind a) s

/-- JMP (abs,X), opcode 0x7C (47_control R420). -/
def execJmpIax (a : Addr) (s : State) : Result :=
  jumpInstr 0x7C (.iax a) s

/-- JSR abs, opcode 0x20 (47_control R421). -/
def execJsr (a : Addr) (s : State) : Result :=
  plainInstr 0x20 (.jsr (loByte a)) (callSubroutine (loByte a)) s

/-- RTS, opcode 0x60 (47_control R422). -/
def execRts (s : State) : Result :=
  plainInstr 0x60 .stk returnFromSubroutine s

/-- RTI, opcode 0x40 (47_control R423). -/
def execRti (s : State) : Result :=
  plainInstr 0x40 .stk (fun t => t.idle.returnFromException) s

/-- BRK, opcode 0x00 (47_control R424). -/
def execBrk (sig : Byte) (s : State) : Result :=
  plainInstr 0x00 (.brk sig) (fun t => (t.takeException true).2) s

/-- WAI, opcode 0xCB (47_control R425). -/
def execWai (s : State) : Result :=
  plainInstr 0xCB .imp (fun t => t.idle.setWaiting true) s

/-- STP, opcode 0xDB (47_control R426). -/
def execStp (s : State) : Result :=
  plainInstr 0xDB .imp (fun t => t.idle.setStopped true) s

/-- NOP, opcode 0xEA (47_control R427). -/
def execNop (s : State) : Result :=
  plainInstr 0xEA .imp (fun t => t) s

end Sys2Proof.Machine
end

