-- ==== Sys2Proof/Machine/Loads.lean ====
section
/-! DEFINITION. What a load leaves in a register, shared by the loads, the transfers and the pulls (43_load_store R287). -/

namespace Sys2Proof.Machine

/-- A takes a byte; N and Z follow it. -/
def loadA (v : Byte) (s : State) : State := (s.setA v).setP (s.p.setNZ v)

/-- X takes a byte; N and Z follow it. -/
def loadX (v : Byte) (s : State) : State := (s.setX v).setP (s.p.setNZ v)

/-- Y takes a byte; N and Z follow it. -/
def loadY (v : Byte) (s : State) : State := (s.setY v).setP (s.p.setNZ v)

end Sys2Proof.Machine
end

