-- ==== Sys2Proof/Machine/LoadStore.lean ====
section
/-! DEFINITION. Loads and stores (43_load_store R280 to R287). -/

namespace Sys2Proof.Machine

/-- LDA (zp,X), opcode 0xA1 (43_load_store R280). -/
def execLdaIzx (z : Byte) (s : State) : Result :=
  readInstr 0xA1 (.izx z) loadA s

/-- LDA zp, opcode 0xA5 (43_load_store R280). -/
def execLdaZp (z : Byte) (s : State) : Result :=
  readInstr 0xA5 (.zp z) loadA s

/-- LDA #imm, opcode 0xA9 (43_load_store R280). -/
def execLdaImm (v : Byte) (s : State) : Result :=
  readInstr 0xA9 (.imm v) loadA s

/-- LDA abs, opcode 0xAD (43_load_store R280). -/
def execLdaAbs (a : Addr) (s : State) : Result :=
  readInstr 0xAD (.abs a) loadA s

/-- LDA (zp),Y, opcode 0xB1 (43_load_store R280). -/
def execLdaIzy (z : Byte) (s : State) : Result :=
  readInstr 0xB1 (.izy z false) loadA s

/-- LDA (zp), opcode 0xB2 (43_load_store R280). -/
def execLdaIzp (z : Byte) (s : State) : Result :=
  readInstr 0xB2 (.izp z) loadA s

/-- LDA zp,X, opcode 0xB5 (43_load_store R280). -/
def execLdaZpx (z : Byte) (s : State) : Result :=
  readInstr 0xB5 (.zpx z) loadA s

/-- LDA abs,Y, opcode 0xB9 (43_load_store R280). -/
def execLdaAbsy (a : Addr) (s : State) : Result :=
  readInstr 0xB9 (.absy a false) loadA s

/-- LDA abs,X, opcode 0xBD (43_load_store R280). -/
def execLdaAbsx (a : Addr) (s : State) : Result :=
  readInstr 0xBD (.absx a false) loadA s

/-- LDX #imm, opcode 0xA2 (43_load_store R281). -/
def execLdxImm (v : Byte) (s : State) : Result :=
  readInstr 0xA2 (.imm v) loadX s

/-- LDX zp, opcode 0xA6 (43_load_store R281). -/
def execLdxZp (z : Byte) (s : State) : Result :=
  readInstr 0xA6 (.zp z) loadX s

/-- LDX abs, opcode 0xAE (43_load_store R281). -/
def execLdxAbs (a : Addr) (s : State) : Result :=
  readInstr 0xAE (.abs a) loadX s

/-- LDX zp,Y, opcode 0xB6 (43_load_store R281). -/
def execLdxZpy (z : Byte) (s : State) : Result :=
  readInstr 0xB6 (.zpy z) loadX s

/-- LDX abs,Y, opcode 0xBE (43_load_store R281). -/
def execLdxAbsy (a : Addr) (s : State) : Result :=
  readInstr 0xBE (.absy a false) loadX s

/-- LDY #imm, opcode 0xA0 (43_load_store R282). -/
def execLdyImm (v : Byte) (s : State) : Result :=
  readInstr 0xA0 (.imm v) loadY s

/-- LDY zp, opcode 0xA4 (43_load_store R282). -/
def execLdyZp (z : Byte) (s : State) : Result :=
  readInstr 0xA4 (.zp z) loadY s

/-- LDY abs, opcode 0xAC (43_load_store R282). -/
def execLdyAbs (a : Addr) (s : State) : Result :=
  readInstr 0xAC (.abs a) loadY s

/-- LDY zp,X, opcode 0xB4 (43_load_store R282). -/
def execLdyZpx (z : Byte) (s : State) : Result :=
  readInstr 0xB4 (.zpx z) loadY s

/-- LDY abs,X, opcode 0xBC (43_load_store R282). -/
def execLdyAbsx (a : Addr) (s : State) : Result :=
  readInstr 0xBC (.absx a false) loadY s

/-- STA (zp,X), opcode 0x81 (43_load_store R283). -/
def execStaIzx (z : Byte) (s : State) : Result :=
  writeInstr 0x81 (.izx z) s.a s

/-- STA zp, opcode 0x85 (43_load_store R283). -/
def execStaZp (z : Byte) (s : State) : Result :=
  writeInstr 0x85 (.zp z) s.a s

/-- STA abs, opcode 0x8D (43_load_store R283). -/
def execStaAbs (a : Addr) (s : State) : Result :=
  writeInstr 0x8D (.abs a) s.a s

/-- STA (zp),Y, opcode 0x91 (43_load_store R283). -/
def execStaIzy (z : Byte) (s : State) : Result :=
  writeInstr 0x91 (.izy z true) s.a s

/-- STA (zp), opcode 0x92 (43_load_store R283). -/
def execStaIzp (z : Byte) (s : State) : Result :=
  writeInstr 0x92 (.izp z) s.a s

/-- STA zp,X, opcode 0x95 (43_load_store R283). -/
def execStaZpx (z : Byte) (s : State) : Result :=
  writeInstr 0x95 (.zpx z) s.a s

/-- STA abs,Y, opcode 0x99 (43_load_store R283). -/
def execStaAbsy (a : Addr) (s : State) : Result :=
  writeInstr 0x99 (.absy a true) s.a s

/-- STA abs,X, opcode 0x9D (43_load_store R283). -/
def execStaAbsx (a : Addr) (s : State) : Result :=
  writeInstr 0x9D (.absx a true) s.a s

/-- STX zp, opcode 0x86 (43_load_store R284). -/
def execStxZp (z : Byte) (s : State) : Result :=
  writeInstr 0x86 (.zp z) s.x s

/-- STX abs, opcode 0x8E (43_load_store R284). -/
def execStxAbs (a : Addr) (s : State) : Result :=
  writeInstr 0x8E (.abs a) s.x s

/-- STX zp,Y, opcode 0x96 (43_load_store R284). -/
def execStxZpy (z : Byte) (s : State) : Result :=
  writeInstr 0x96 (.zpy z) s.x s

/-- STY zp, opcode 0x84 (43_load_store R285). -/
def execStyZp (z : Byte) (s : State) : Result :=
  writeInstr 0x84 (.zp z) s.y s

/-- STY abs, opcode 0x8C (43_load_store R285). -/
def execStyAbs (a : Addr) (s : State) : Result :=
  writeInstr 0x8C (.abs a) s.y s

/-- STY zp,X, opcode 0x94 (43_load_store R285). -/
def execStyZpx (z : Byte) (s : State) : Result :=
  writeInstr 0x94 (.zpx z) s.y s

/-- STZ zp, opcode 0x64 (43_load_store R286). -/
def execStzZp (z : Byte) (s : State) : Result :=
  writeInstr 0x64 (.zp z) 0x00 s

/-- STZ zp,X, opcode 0x74 (43_load_store R286). -/
def execStzZpx (z : Byte) (s : State) : Result :=
  writeInstr 0x74 (.zpx z) 0x00 s

/-- STZ abs, opcode 0x9C (43_load_store R286). -/
def execStzAbs (a : Addr) (s : State) : Result :=
  writeInstr 0x9C (.abs a) 0x00 s

/-- STZ abs,X, opcode 0x9E (43_load_store R286). -/
def execStzAbsx (a : Addr) (s : State) : Result :=
  writeInstr 0x9E (.absx a true) 0x00 s

end Sys2Proof.Machine
end

