-- ==== Sys2Proof/Machine/Reserved.lean ====
section
/-! DEFINITION. The 44 reserved opcodes (30_encoding R149, 47_control_system R428 to R433). -/

namespace Sys2Proof.Machine

/-- A reserved opcode: refused after its opcode event under RESERVED_OPCODES = Refuse, a no-operation under Nop
(30_encoding R149, 41_accessors R219). -/
def reservedStep (op : Byte) (run : State → Result) (s : State) : Result :=
  match s.reserved with
  | .refuse => .refused (.reservedOpcode op s.pc (s.refusedFetch op))
  | .nop => run s

/-- NOP #imm, opcode 0x02 (47_control R428). -/
def execNop02 (v : Byte) (s : State) : Result :=
  reservedStep 0x02 (readInstr 0x02 (.imm v) (fun _ t => t)) s

/-- NOP #imm, opcode 0x22 (47_control R428). -/
def execNop22 (v : Byte) (s : State) : Result :=
  reservedStep 0x22 (readInstr 0x22 (.imm v) (fun _ t => t)) s

/-- NOP #imm, opcode 0x42 (47_control R428). -/
def execNop42 (v : Byte) (s : State) : Result :=
  reservedStep 0x42 (readInstr 0x42 (.imm v) (fun _ t => t)) s

/-- NOP #imm, opcode 0x62 (47_control R428). -/
def execNop62 (v : Byte) (s : State) : Result :=
  reservedStep 0x62 (readInstr 0x62 (.imm v) (fun _ t => t)) s

/-- NOP #imm, opcode 0x82 (47_control R428). -/
def execNop82 (v : Byte) (s : State) : Result :=
  reservedStep 0x82 (readInstr 0x82 (.imm v) (fun _ t => t)) s

/-- NOP #imm, opcode 0xC2 (47_control R428). -/
def execNopC2 (v : Byte) (s : State) : Result :=
  reservedStep 0xC2 (readInstr 0xC2 (.imm v) (fun _ t => t)) s

/-- NOP #imm, opcode 0xE2 (47_control R428). -/
def execNopE2 (v : Byte) (s : State) : Result :=
  reservedStep 0xE2 (readInstr 0xE2 (.imm v) (fun _ t => t)) s

/-- NOP, opcode 0x03 (47_control R429). -/
def execNop03 (s : State) : Result :=
  reservedStep 0x03 (plainInstr 0x03 .nop1 (fun t => t)) s

/-- NOP, opcode 0x0B (47_control R429). -/
def execNop0B (s : State) : Result :=
  reservedStep 0x0B (plainInstr 0x0B .nop1 (fun t => t)) s

/-- NOP, opcode 0x13 (47_control R429). -/
def execNop13 (s : State) : Result :=
  reservedStep 0x13 (plainInstr 0x13 .nop1 (fun t => t)) s

/-- NOP, opcode 0x1B (47_control R429). -/
def execNop1B (s : State) : Result :=
  reservedStep 0x1B (plainInstr 0x1B .nop1 (fun t => t)) s

/-- NOP, opcode 0x23 (47_control R429). -/
def execNop23 (s : State) : Result :=
  reservedStep 0x23 (plainInstr 0x23 .nop1 (fun t => t)) s

/-- NOP, opcode 0x2B (47_control R429). -/
def execNop2B (s : State) : Result :=
  reservedStep 0x2B (plainInstr 0x2B .nop1 (fun t => t)) s

/-- NOP, opcode 0x33 (47_control R429). -/
def execNop33 (s : State) : Result :=
  reservedStep 0x33 (plainInstr 0x33 .nop1 (fun t => t)) s

/-- NOP, opcode 0x3B (47_control R429). -/
def execNop3B (s : State) : Result :=
  reservedStep 0x3B (plainInstr 0x3B .nop1 (fun t => t)) s

/-- NOP, opcode 0x43 (47_control R429). -/
def execNop43 (s : State) : Result :=
  reservedStep 0x43 (plainInstr 0x43 .nop1 (fun t => t)) s

/-- NOP, opcode 0x4B (47_control R429). -/
def execNop4B (s : State) : Result :=
  reservedStep 0x4B (plainInstr 0x4B .nop1 (fun t => t)) s

/-- NOP, opcode 0x53 (47_control R429). -/
def execNop53 (s : State) : Result :=
  reservedStep 0x53 (plainInstr 0x53 .nop1 (fun t => t)) s

/-- NOP, opcode 0x5B (47_control R429). -/
def execNop5B (s : State) : Result :=
  reservedStep 0x5B (plainInstr 0x5B .nop1 (fun t => t)) s

/-- NOP, opcode 0x63 (47_control R429). -/
def execNop63 (s : State) : Result :=
  reservedStep 0x63 (plainInstr 0x63 .nop1 (fun t => t)) s

/-- NOP, opcode 0x6B (47_control R429). -/
def execNop6B (s : State) : Result :=
  reservedStep 0x6B (plainInstr 0x6B .nop1 (fun t => t)) s

/-- NOP, opcode 0x73 (47_control R429). -/
def execNop73 (s : State) : Result :=
  reservedStep 0x73 (plainInstr 0x73 .nop1 (fun t => t)) s

/-- NOP, opcode 0x7B (47_control R429). -/
def execNop7B (s : State) : Result :=
  reservedStep 0x7B (plainInstr 0x7B .nop1 (fun t => t)) s

/-- NOP, opcode 0x83 (47_control R429). -/
def execNop83 (s : State) : Result :=
  reservedStep 0x83 (plainInstr 0x83 .nop1 (fun t => t)) s

/-- NOP, opcode 0x8B (47_control R429). -/
def execNop8B (s : State) : Result :=
  reservedStep 0x8B (plainInstr 0x8B .nop1 (fun t => t)) s

/-- NOP, opcode 0x93 (47_control R429). -/
def execNop93 (s : State) : Result :=
  reservedStep 0x93 (plainInstr 0x93 .nop1 (fun t => t)) s

/-- NOP, opcode 0x9B (47_control R429). -/
def execNop9B (s : State) : Result :=
  reservedStep 0x9B (plainInstr 0x9B .nop1 (fun t => t)) s

/-- NOP, opcode 0xA3 (47_control R429). -/
def execNopA3 (s : State) : Result :=
  reservedStep 0xA3 (plainInstr 0xA3 .nop1 (fun t => t)) s

/-- NOP, opcode 0xAB (47_control R429). -/
def execNopAB (s : State) : Result :=
  reservedStep 0xAB (plainInstr 0xAB .nop1 (fun t => t)) s

/-- NOP, opcode 0xB3 (47_control R429). -/
def execNopB3 (s : State) : Result :=
  reservedStep 0xB3 (plainInstr 0xB3 .nop1 (fun t => t)) s

/-- NOP, opcode 0xBB (47_control R429). -/
def execNopBB (s : State) : Result :=
  reservedStep 0xBB (plainInstr 0xBB .nop1 (fun t => t)) s

/-- NOP, opcode 0xC3 (47_control R429). -/
def execNopC3 (s : State) : Result :=
  reservedStep 0xC3 (plainInstr 0xC3 .nop1 (fun t => t)) s

/-- NOP, opcode 0xD3 (47_control R429). -/
def execNopD3 (s : State) : Result :=
  reservedStep 0xD3 (plainInstr 0xD3 .nop1 (fun t => t)) s

/-- NOP, opcode 0xE3 (47_control R429). -/
def execNopE3 (s : State) : Result :=
  reservedStep 0xE3 (plainInstr 0xE3 .nop1 (fun t => t)) s

/-- NOP, opcode 0xEB (47_control R429). -/
def execNopEB (s : State) : Result :=
  reservedStep 0xEB (plainInstr 0xEB .nop1 (fun t => t)) s

/-- NOP, opcode 0xF3 (47_control R429). -/
def execNopF3 (s : State) : Result :=
  reservedStep 0xF3 (plainInstr 0xF3 .nop1 (fun t => t)) s

/-- NOP, opcode 0xFB (47_control R429). -/
def execNopFB (s : State) : Result :=
  reservedStep 0xFB (plainInstr 0xFB .nop1 (fun t => t)) s

/-- NOP zp, opcode 0x44 (47_control R430). -/
def execNop44 (z : Byte) (s : State) : Result :=
  reservedStep 0x44 (readInstr 0x44 (.zp z) (fun _ t => t)) s

/-- NOP zp,X, opcode 0x54 (47_control R431). -/
def execNop54 (z : Byte) (s : State) : Result :=
  reservedStep 0x54 (readInstr 0x54 (.zpx z) (fun _ t => t)) s

/-- NOP zp,X, opcode 0xD4 (47_control R431). -/
def execNopD4 (z : Byte) (s : State) : Result :=
  reservedStep 0xD4 (readInstr 0xD4 (.zpx z) (fun _ t => t)) s

/-- NOP zp,X, opcode 0xF4 (47_control R431). -/
def execNopF4 (z : Byte) (s : State) : Result :=
  reservedStep 0xF4 (readInstr 0xF4 (.zpx z) (fun _ t => t)) s

/-- NOP abs, opcode 0xDC (47_control R432). -/
def execNopDC (a : Addr) (s : State) : Result :=
  reservedStep 0xDC (readInstr 0xDC (.abs a) (fun _ t => t)) s

/-- NOP abs, opcode 0xFC (47_control R432). -/
def execNopFC (a : Addr) (s : State) : Result :=
  reservedStep 0xFC (readInstr 0xFC (.abs a) (fun _ t => t)) s

/-- NOP abs, opcode 0x5C: after its fetch the five Idle events of 47_control R433 or, as 41_accessors R206, 30_encoding
R148 and 92_eei D8 have it, the discarded Read of class read and the Idle events left of its eight cycles. The rules
disagree; State holds which of them the machine follows. DESIGN CHOICE: notes/assumptions/19.md. -/
def execNop5C (a : Addr) (s : State) : Result :=
  reservedStep 0x5C
    (match s.opcode5C with
      | .fiveIdles => plainInstr 0x5C (.abs a) (fun t => t.idle.idle.idle.idle.idle)
      | .discardedRead => readInstr 0x5C (.abs a) (fun _ t => t.idle.idle.idle.idle))
    s

end Sys2Proof.Machine
end

