-- ==== Sys2Proof/Machine/Rmw.lean ====
section
/-! DEFINITION. Shifts, rotates, increments, decrements and bit instructions (45_rmw_bits R330 to R360). -/

namespace Sys2Proof.Machine

/-- ASL zp, opcode 0x06 (45_rmw_bits R331). -/
def execAslZp (z : Byte) (s : State) : Result :=
  rmwInstr 0x06 (.zp z) aslByte s

/-- ASL A, opcode 0x0A (45_rmw_bits R331). -/
def execAslAcc (s : State) : Result :=
  rmwInstr 0x0A .acc aslByte s

/-- ASL abs, opcode 0x0E (45_rmw_bits R331). -/
def execAslAbs (a : Addr) (s : State) : Result :=
  rmwInstr 0x0E (.abs a) aslByte s

/-- ASL zp,X, opcode 0x16 (45_rmw_bits R331). -/
def execAslZpx (z : Byte) (s : State) : Result :=
  rmwInstr 0x16 (.zpx z) aslByte s

/-- ASL abs,X, opcode 0x1E (45_rmw_bits R331). -/
def execAslAbsx (a : Addr) (s : State) : Result :=
  rmwInstr 0x1E (.absx a false) aslByte s

/-- LSR zp, opcode 0x46 (45_rmw_bits R332). -/
def execLsrZp (z : Byte) (s : State) : Result :=
  rmwInstr 0x46 (.zp z) lsrByte s

/-- LSR A, opcode 0x4A (45_rmw_bits R332). -/
def execLsrAcc (s : State) : Result :=
  rmwInstr 0x4A .acc lsrByte s

/-- LSR abs, opcode 0x4E (45_rmw_bits R332). -/
def execLsrAbs (a : Addr) (s : State) : Result :=
  rmwInstr 0x4E (.abs a) lsrByte s

/-- LSR zp,X, opcode 0x56 (45_rmw_bits R332). -/
def execLsrZpx (z : Byte) (s : State) : Result :=
  rmwInstr 0x56 (.zpx z) lsrByte s

/-- LSR abs,X, opcode 0x5E (45_rmw_bits R332). -/
def execLsrAbsx (a : Addr) (s : State) : Result :=
  rmwInstr 0x5E (.absx a false) lsrByte s

/-- ROL zp, opcode 0x26 (45_rmw_bits R333). -/
def execRolZp (z : Byte) (s : State) : Result :=
  rmwInstr 0x26 (.zp z) rolByte s

/-- ROL A, opcode 0x2A (45_rmw_bits R333). -/
def execRolAcc (s : State) : Result :=
  rmwInstr 0x2A .acc rolByte s

/-- ROL abs, opcode 0x2E (45_rmw_bits R333). -/
def execRolAbs (a : Addr) (s : State) : Result :=
  rmwInstr 0x2E (.abs a) rolByte s

/-- ROL zp,X, opcode 0x36 (45_rmw_bits R333). -/
def execRolZpx (z : Byte) (s : State) : Result :=
  rmwInstr 0x36 (.zpx z) rolByte s

/-- ROL abs,X, opcode 0x3E (45_rmw_bits R333). -/
def execRolAbsx (a : Addr) (s : State) : Result :=
  rmwInstr 0x3E (.absx a false) rolByte s

/-- ROR zp, opcode 0x66 (45_rmw_bits R334). -/
def execRorZp (z : Byte) (s : State) : Result :=
  rmwInstr 0x66 (.zp z) rorByte s

/-- ROR A, opcode 0x6A (45_rmw_bits R334). -/
def execRorAcc (s : State) : Result :=
  rmwInstr 0x6A .acc rorByte s

/-- ROR abs, opcode 0x6E (45_rmw_bits R334). -/
def execRorAbs (a : Addr) (s : State) : Result :=
  rmwInstr 0x6E (.abs a) rorByte s

/-- ROR zp,X, opcode 0x76 (45_rmw_bits R334). -/
def execRorZpx (z : Byte) (s : State) : Result :=
  rmwInstr 0x76 (.zpx z) rorByte s

/-- ROR abs,X, opcode 0x7E (45_rmw_bits R334). -/
def execRorAbsx (a : Addr) (s : State) : Result :=
  rmwInstr 0x7E (.absx a false) rorByte s

/-- INC A, opcode 0x1A (45_rmw_bits R335). -/
def execIncAcc (s : State) : Result :=
  rmwInstr 0x1A .acc incByte s

/-- INC zp, opcode 0xE6 (45_rmw_bits R335). -/
def execIncZp (z : Byte) (s : State) : Result :=
  rmwInstr 0xE6 (.zp z) incByte s

/-- INC abs, opcode 0xEE (45_rmw_bits R335). -/
def execIncAbs (a : Addr) (s : State) : Result :=
  rmwInstr 0xEE (.abs a) incByte s

/-- INC zp,X, opcode 0xF6 (45_rmw_bits R335). -/
def execIncZpx (z : Byte) (s : State) : Result :=
  rmwInstr 0xF6 (.zpx z) incByte s

/-- INC abs,X, opcode 0xFE (45_rmw_bits R335). -/
def execIncAbsx (a : Addr) (s : State) : Result :=
  rmwInstr 0xFE (.absx a true) incByte s

/-- DEC A, opcode 0x3A (45_rmw_bits R336). -/
def execDecAcc (s : State) : Result :=
  rmwInstr 0x3A .acc decByte s

/-- DEC zp, opcode 0xC6 (45_rmw_bits R336). -/
def execDecZp (z : Byte) (s : State) : Result :=
  rmwInstr 0xC6 (.zp z) decByte s

/-- DEC abs, opcode 0xCE (45_rmw_bits R336). -/
def execDecAbs (a : Addr) (s : State) : Result :=
  rmwInstr 0xCE (.abs a) decByte s

/-- DEC zp,X, opcode 0xD6 (45_rmw_bits R336). -/
def execDecZpx (z : Byte) (s : State) : Result :=
  rmwInstr 0xD6 (.zpx z) decByte s

/-- DEC abs,X, opcode 0xDE (45_rmw_bits R336). -/
def execDecAbsx (a : Addr) (s : State) : Result :=
  rmwInstr 0xDE (.absx a true) decByte s

/-- INX, opcode 0xE8 (45_rmw_bits R337). -/
def execInx (s : State) : Result :=
  plainInstr 0xE8 .imp (fun t => (t.setX (t.x + 1)).setP (t.p.setNZ (t.x + 1))) s

/-- INY, opcode 0xC8 (45_rmw_bits R338). -/
def execIny (s : State) : Result :=
  plainInstr 0xC8 .imp (fun t => (t.setY (t.y + 1)).setP (t.p.setNZ (t.y + 1))) s

/-- DEX, opcode 0xCA (45_rmw_bits R339). -/
def execDex (s : State) : Result :=
  plainInstr 0xCA .imp (fun t => (t.setX (t.x - 1)).setP (t.p.setNZ (t.x - 1))) s

/-- DEY, opcode 0x88 (45_rmw_bits R340). -/
def execDey (s : State) : Result :=
  plainInstr 0x88 .imp (fun t => (t.setY (t.y - 1)).setP (t.p.setNZ (t.y - 1))) s

/-- TSB zp, opcode 0x04 (45_rmw_bits R341). -/
def execTsbZp (z : Byte) (s : State) : Result :=
  rmwInstr 0x04 (.zp z) (tsbByte s.a) s

/-- TSB abs, opcode 0x0C (45_rmw_bits R341). -/
def execTsbAbs (a : Addr) (s : State) : Result :=
  rmwInstr 0x0C (.abs a) (tsbByte s.a) s

/-- TRB zp, opcode 0x14 (45_rmw_bits R342). -/
def execTrbZp (z : Byte) (s : State) : Result :=
  rmwInstr 0x14 (.zp z) (trbByte s.a) s

/-- TRB abs, opcode 0x1C (45_rmw_bits R342). -/
def execTrbAbs (a : Addr) (s : State) : Result :=
  rmwInstr 0x1C (.abs a) (trbByte s.a) s

/-- RMB0 zp, opcode 0x07 (45_rmw_bits R344). -/
def execRmb0 (z : Byte) (s : State) : Result :=
  rmwInstr 0x07 (.zp z) (rmbByte 0) s

/-- RMB1 zp, opcode 0x17 (45_rmw_bits R345). -/
def execRmb1 (z : Byte) (s : State) : Result :=
  rmwInstr 0x17 (.zp z) (rmbByte 1) s

/-- RMB2 zp, opcode 0x27 (45_rmw_bits R346). -/
def execRmb2 (z : Byte) (s : State) : Result :=
  rmwInstr 0x27 (.zp z) (rmbByte 2) s

/-- RMB3 zp, opcode 0x37 (45_rmw_bits R347). -/
def execRmb3 (z : Byte) (s : State) : Result :=
  rmwInstr 0x37 (.zp z) (rmbByte 3) s

/-- RMB4 zp, opcode 0x47 (45_rmw_bits R348). -/
def execRmb4 (z : Byte) (s : State) : Result :=
  rmwInstr 0x47 (.zp z) (rmbByte 4) s

/-- RMB5 zp, opcode 0x57 (45_rmw_bits R349). -/
def execRmb5 (z : Byte) (s : State) : Result :=
  rmwInstr 0x57 (.zp z) (rmbByte 5) s

/-- RMB6 zp, opcode 0x67 (45_rmw_bits R350). -/
def execRmb6 (z : Byte) (s : State) : Result :=
  rmwInstr 0x67 (.zp z) (rmbByte 6) s

/-- RMB7 zp, opcode 0x77 (45_rmw_bits R351). -/
def execRmb7 (z : Byte) (s : State) : Result :=
  rmwInstr 0x77 (.zp z) (rmbByte 7) s

/-- SMB0 zp, opcode 0x87 (45_rmw_bits R353). -/
def execSmb0 (z : Byte) (s : State) : Result :=
  rmwInstr 0x87 (.zp z) (smbByte 0) s

/-- SMB1 zp, opcode 0x97 (45_rmw_bits R354). -/
def execSmb1 (z : Byte) (s : State) : Result :=
  rmwInstr 0x97 (.zp z) (smbByte 1) s

/-- SMB2 zp, opcode 0xA7 (45_rmw_bits R355). -/
def execSmb2 (z : Byte) (s : State) : Result :=
  rmwInstr 0xA7 (.zp z) (smbByte 2) s

/-- SMB3 zp, opcode 0xB7 (45_rmw_bits R356). -/
def execSmb3 (z : Byte) (s : State) : Result :=
  rmwInstr 0xB7 (.zp z) (smbByte 3) s

/-- SMB4 zp, opcode 0xC7 (45_rmw_bits R357). -/
def execSmb4 (z : Byte) (s : State) : Result :=
  rmwInstr 0xC7 (.zp z) (smbByte 4) s

/-- SMB5 zp, opcode 0xD7 (45_rmw_bits R358). -/
def execSmb5 (z : Byte) (s : State) : Result :=
  rmwInstr 0xD7 (.zp z) (smbByte 5) s

/-- SMB6 zp, opcode 0xE7 (45_rmw_bits R359). -/
def execSmb6 (z : Byte) (s : State) : Result :=
  rmwInstr 0xE7 (.zp z) (smbByte 6) s

/-- SMB7 zp, opcode 0xF7 (45_rmw_bits R360). -/
def execSmb7 (z : Byte) (s : State) : Result :=
  rmwInstr 0xF7 (.zp z) (smbByte 7) s

end Sys2Proof.Machine
end

