-- ==== Sys2Proof/Machine/Transfer.lean ====
section
/-! DEFINITION. Transfers, stack and flag instructions (46_transfer_stack_flags R380 to R401). A pull takes one idle
cycle after the fetch (R380); a flag or register is written after the last event (41_accessors R209). -/

namespace Sys2Proof.Machine

/-- TAX, opcode 0xAA (46_transfer R381). -/
def execTax (s : State) : Result :=
  plainInstr 0xAA .imp (fun t => loadX t.a t) s

/-- TAY, opcode 0xA8 (46_transfer R382). -/
def execTay (s : State) : Result :=
  plainInstr 0xA8 .imp (fun t => loadY t.a t) s

/-- TXA, opcode 0x8A (46_transfer R383). -/
def execTxa (s : State) : Result :=
  plainInstr 0x8A .imp (fun t => loadA t.x t) s

/-- TYA, opcode 0x98 (46_transfer R384). -/
def execTya (s : State) : Result :=
  plainInstr 0x98 .imp (fun t => loadA t.y t) s

/-- TSX, opcode 0xBA (46_transfer R385). -/
def execTsx (s : State) : Result :=
  plainInstr 0xBA .imp (fun t => loadX t.sp t) s

/-- TXS, opcode 0x9A (46_transfer R386). -/
def execTxs (s : State) : Result :=
  plainInstr 0x9A .imp (fun t => t.setSp t.x) s

/-- PHA, opcode 0x48 (46_transfer R387). -/
def execPha (s : State) : Result :=
  plainInstr 0x48 .stk (fun t => t.push t.a) s

/-- PHP, opcode 0x08 (46_transfer R388). -/
def execPhp (s : State) : Result :=
  plainInstr 0x08 .stk (fun t => t.push (t.p.toByte true)) s

/-- PHX, opcode 0xDA (46_transfer R389). -/
def execPhx (s : State) : Result :=
  plainInstr 0xDA .stk (fun t => t.push t.x) s

/-- PHY, opcode 0x5A (46_transfer R390). -/
def execPhy (s : State) : Result :=
  plainInstr 0x5A .stk (fun t => t.push t.y) s

/-- PLA, opcode 0x68 (46_transfer R391). -/
def execPla (s : State) : Result :=
  plainInstr 0x68 .stk (fun t => loadA t.idle.pulled t.idle.pull) s

/-- PLP, opcode 0x28 (46_transfer R392). -/
def execPlp (s : State) : Result :=
  plainInstr 0x28 .stk (fun t => t.idle.pull.setP (Flags.ofByte t.idle.pulled)) s

/-- PLX, opcode 0xFA (46_transfer R393). -/
def execPlx (s : State) : Result :=
  plainInstr 0xFA .stk (fun t => loadX t.idle.pulled t.idle.pull) s

/-- PLY, opcode 0x7A (46_transfer R394). -/
def execPly (s : State) : Result :=
  plainInstr 0x7A .stk (fun t => loadY t.idle.pulled t.idle.pull) s

/-- CLC, opcode 0x18 (46_transfer R395). -/
def execClc (s : State) : Result :=
  plainInstr 0x18 .imp (fun t => t.setP { t.p with c := false }) s

/-- SEC, opcode 0x38 (46_transfer R396). -/
def execSec (s : State) : Result :=
  plainInstr 0x38 .imp (fun t => t.setP { t.p with c := true }) s

/-- CLI, opcode 0x58 (46_transfer R397). -/
def execCli (s : State) : Result :=
  plainInstr 0x58 .imp (fun t => t.setP { t.p with i := false }) s

/-- SEI, opcode 0x78 (46_transfer R398). -/
def execSei (s : State) : Result :=
  plainInstr 0x78 .imp (fun t => t.setP { t.p with i := true }) s

/-- CLD, opcode 0xD8 (46_transfer R399). -/
def execCld (s : State) : Result :=
  plainInstr 0xD8 .imp (fun t => t.setP { t.p with d := false }) s

/-- SED, opcode 0xF8 (46_transfer R400). -/
def execSed (s : State) : Result :=
  plainInstr 0xF8 .imp (fun t => t.setP { t.p with d := true }) s

/-- CLV, opcode 0xB8 (46_transfer R401). -/
def execClv (s : State) : Result :=
  plainInstr 0xB8 .imp (fun t => t.setP { t.p with v := false }) s

end Sys2Proof.Machine
end

