-- ==== Sys2Proof/Syntax.lean ====
section
/-! DEFINITION. The instructions: one constructor for each of the 256 rows of spec/opcode_table.json (30_encoding R147,
R148), those with operands first, each group in opcode order. Operands (30_encoding R141): `v` an immediate byte, `z` a zero-page byte, `a` a 16-bit address or
base, `off` a branch offset as an integer (R145), `sig` the signature byte of BRK. A reserved opcode (R149) is named by its
number. -/

namespace Sys2Proof

inductive Instr where
  /-- 0x00 BRK (R424). -/
  | brk (sig : Byte)
  /-- 0x01 ORA (zp,X) (R309). -/
  | oraIzx (z : Byte)
  /-- 0x02 NOP #imm (R428, reserved). -/
  | nop02 (v : Byte)
  /-- 0x04 TSB zp (R341). -/
  | tsbZp (z : Byte)
  /-- 0x05 ORA zp (R309). -/
  | oraZp (z : Byte)
  /-- 0x06 ASL zp (R331). -/
  | aslZp (z : Byte)
  /-- 0x07 RMB0 zp (R344). -/
  | rmb0 (z : Byte)
  /-- 0x09 ORA #imm (R309). -/
  | oraImm (v : Byte)
  /-- 0x0C TSB abs (R341). -/
  | tsbAbs (a : Addr)
  /-- 0x0D ORA abs (R309). -/
  | oraAbs (a : Addr)
  /-- 0x0E ASL abs (R331). -/
  | aslAbs (a : Addr)
  /-- 0x0F BBR0 zp,rel (R251). -/
  | bbr0 (z : Byte) (off : Int)
  /-- 0x10 BPL rel (R242). -/
  | bpl (off : Int)
  /-- 0x11 ORA (zp),Y (R309). -/
  | oraIzy (z : Byte)
  /-- 0x12 ORA (zp) (R309). -/
  | oraIzp (z : Byte)
  /-- 0x14 TRB zp (R342). -/
  | trbZp (z : Byte)
  /-- 0x15 ORA zp,X (R309). -/
  | oraZpx (z : Byte)
  /-- 0x16 ASL zp,X (R331). -/
  | aslZpx (z : Byte)
  /-- 0x17 RMB1 zp (R345). -/
  | rmb1 (z : Byte)
  /-- 0x19 ORA abs,Y (R309). -/
  | oraAbsy (a : Addr)
  /-- 0x1C TRB abs (R342). -/
  | trbAbs (a : Addr)
  /-- 0x1D ORA abs,X (R309). -/
  | oraAbsx (a : Addr)
  /-- 0x1E ASL abs,X (R331). -/
  | aslAbsx (a : Addr)
  /-- 0x1F BBR1 zp,rel (R252). -/
  | bbr1 (z : Byte) (off : Int)
  /-- 0x20 JSR abs (R421). -/
  | jsr (a : Addr)
  /-- 0x21 AND (zp,X) (R308). -/
  | andIzx (z : Byte)
  /-- 0x22 NOP #imm (R428, reserved). -/
  | nop22 (v : Byte)
  /-- 0x24 BIT zp (R314). -/
  | bitZp (z : Byte)
  /-- 0x25 AND zp (R308). -/
  | andZp (z : Byte)
  /-- 0x26 ROL zp (R333). -/
  | rolZp (z : Byte)
  /-- 0x27 RMB2 zp (R346). -/
  | rmb2 (z : Byte)
  /-- 0x29 AND #imm (R308). -/
  | andImm (v : Byte)
  /-- 0x2C BIT abs (R314). -/
  | bitAbs (a : Addr)
  /-- 0x2D AND abs (R308). -/
  | andAbs (a : Addr)
  /-- 0x2E ROL abs (R333). -/
  | rolAbs (a : Addr)
  /-- 0x2F BBR2 zp,rel (R253). -/
  | bbr2 (z : Byte) (off : Int)
  /-- 0x30 BMI rel (R243). -/
  | bmi (off : Int)
  /-- 0x31 AND (zp),Y (R308). -/
  | andIzy (z : Byte)
  /-- 0x32 AND (zp) (R308). -/
  | andIzp (z : Byte)
  /-- 0x34 BIT zp,X (R314). -/
  | bitZpx (z : Byte)
  /-- 0x35 AND zp,X (R308). -/
  | andZpx (z : Byte)
  /-- 0x36 ROL zp,X (R333). -/
  | rolZpx (z : Byte)
  /-- 0x37 RMB3 zp (R347). -/
  | rmb3 (z : Byte)
  /-- 0x39 AND abs,Y (R308). -/
  | andAbsy (a : Addr)
  /-- 0x3C BIT abs,X (R314). -/
  | bitAbsx (a : Addr)
  /-- 0x3D AND abs,X (R308). -/
  | andAbsx (a : Addr)
  /-- 0x3E ROL abs,X (R333). -/
  | rolAbsx (a : Addr)
  /-- 0x3F BBR3 zp,rel (R254). -/
  | bbr3 (z : Byte) (off : Int)
  /-- 0x41 EOR (zp,X) (R310). -/
  | eorIzx (z : Byte)
  /-- 0x42 NOP #imm (R428, reserved). -/
  | nop42 (v : Byte)
  /-- 0x44 NOP zp (R430, reserved). -/
  | nop44 (z : Byte)
  /-- 0x45 EOR zp (R310). -/
  | eorZp (z : Byte)
  /-- 0x46 LSR zp (R332). -/
  | lsrZp (z : Byte)
  /-- 0x47 RMB4 zp (R348). -/
  | rmb4 (z : Byte)
  /-- 0x49 EOR #imm (R310). -/
  | eorImm (v : Byte)
  /-- 0x4C JMP abs (R420). -/
  | jmpAbs (a : Addr)
  /-- 0x4D EOR abs (R310). -/
  | eorAbs (a : Addr)
  /-- 0x4E LSR abs (R332). -/
  | lsrAbs (a : Addr)
  /-- 0x4F BBR4 zp,rel (R255). -/
  | bbr4 (z : Byte) (off : Int)
  /-- 0x50 BVC rel (R244). -/
  | bvc (off : Int)
  /-- 0x51 EOR (zp),Y (R310). -/
  | eorIzy (z : Byte)
  /-- 0x52 EOR (zp) (R310). -/
  | eorIzp (z : Byte)
  /-- 0x54 NOP zp,X (R431, reserved). -/
  | nop54 (z : Byte)
  /-- 0x55 EOR zp,X (R310). -/
  | eorZpx (z : Byte)
  /-- 0x56 LSR zp,X (R332). -/
  | lsrZpx (z : Byte)
  /-- 0x57 RMB5 zp (R349). -/
  | rmb5 (z : Byte)
  /-- 0x59 EOR abs,Y (R310). -/
  | eorAbsy (a : Addr)
  /-- 0x5C NOP abs (R433, reserved). -/
  | nop5C (a : Addr)
  /-- 0x5D EOR abs,X (R310). -/
  | eorAbsx (a : Addr)
  /-- 0x5E LSR abs,X (R332). -/
  | lsrAbsx (a : Addr)
  /-- 0x5F BBR5 zp,rel (R256). -/
  | bbr5 (z : Byte) (off : Int)
  /-- 0x61 ADC (zp,X) (R306). -/
  | adcIzx (z : Byte)
  /-- 0x62 NOP #imm (R428, reserved). -/
  | nop62 (v : Byte)
  /-- 0x64 STZ zp (R286). -/
  | stzZp (z : Byte)
  /-- 0x65 ADC zp (R306). -/
  | adcZp (z : Byte)
  /-- 0x66 ROR zp (R334). -/
  | rorZp (z : Byte)
  /-- 0x67 RMB6 zp (R350). -/
  | rmb6 (z : Byte)
  /-- 0x69 ADC #imm (R306). -/
  | adcImm (v : Byte)
  /-- 0x6C JMP (abs) (R420). -/
  | jmpInd (a : Addr)
  /-- 0x6D ADC abs (R306). -/
  | adcAbs (a : Addr)
  /-- 0x6E ROR abs (R334). -/
  | rorAbs (a : Addr)
  /-- 0x6F BBR6 zp,rel (R257). -/
  | bbr6 (z : Byte) (off : Int)
  /-- 0x70 BVS rel (R245). -/
  | bvs (off : Int)
  /-- 0x71 ADC (zp),Y (R306). -/
  | adcIzy (z : Byte)
  /-- 0x72 ADC (zp) (R306). -/
  | adcIzp (z : Byte)
  /-- 0x74 STZ zp,X (R286). -/
  | stzZpx (z : Byte)
  /-- 0x75 ADC zp,X (R306). -/
  | adcZpx (z : Byte)
  /-- 0x76 ROR zp,X (R334). -/
  | rorZpx (z : Byte)
  /-- 0x77 RMB7 zp (R351). -/
  | rmb7 (z : Byte)
  /-- 0x79 ADC abs,Y (R306). -/
  | adcAbsy (a : Addr)
  /-- 0x7C JMP (abs,X) (R420). -/
  | jmpIax (a : Addr)
  /-- 0x7D ADC abs,X (R306). -/
  | adcAbsx (a : Addr)
  /-- 0x7E ROR abs,X (R334). -/
  | rorAbsx (a : Addr)
  /-- 0x7F BBR7 zp,rel (R258). -/
  | bbr7 (z : Byte) (off : Int)
  /-- 0x80 BRA rel (R250). -/
  | bra (off : Int)
  /-- 0x81 STA (zp,X) (R283). -/
  | staIzx (z : Byte)
  /-- 0x82 NOP #imm (R428, reserved). -/
  | nop82 (v : Byte)
  /-- 0x84 STY zp (R285). -/
  | styZp (z : Byte)
  /-- 0x85 STA zp (R283). -/
  | staZp (z : Byte)
  /-- 0x86 STX zp (R284). -/
  | stxZp (z : Byte)
  /-- 0x87 SMB0 zp (R353). -/
  | smb0 (z : Byte)
  /-- 0x89 BIT #imm (R314). -/
  | bitImm (v : Byte)
  /-- 0x8C STY abs (R285). -/
  | styAbs (a : Addr)
  /-- 0x8D STA abs (R283). -/
  | staAbs (a : Addr)
  /-- 0x8E STX abs (R284). -/
  | stxAbs (a : Addr)
  /-- 0x8F BBS0 zp,rel (R259). -/
  | bbs0 (z : Byte) (off : Int)
  /-- 0x90 BCC rel (R246). -/
  | bcc (off : Int)
  /-- 0x91 STA (zp),Y (R283). -/
  | staIzy (z : Byte)
  /-- 0x92 STA (zp) (R283). -/
  | staIzp (z : Byte)
  /-- 0x94 STY zp,X (R285). -/
  | styZpx (z : Byte)
  /-- 0x95 STA zp,X (R283). -/
  | staZpx (z : Byte)
  /-- 0x96 STX zp,Y (R284). -/
  | stxZpy (z : Byte)
  /-- 0x97 SMB1 zp (R354). -/
  | smb1 (z : Byte)
  /-- 0x99 STA abs,Y (R283). -/
  | staAbsy (a : Addr)
  /-- 0x9C STZ abs (R286). -/
  | stzAbs (a : Addr)
  /-- 0x9D STA abs,X (R283). -/
  | staAbsx (a : Addr)
  /-- 0x9E STZ abs,X (R286). -/
  | stzAbsx (a : Addr)
  /-- 0x9F BBS1 zp,rel (R260). -/
  | bbs1 (z : Byte) (off : Int)
  /-- 0xA0 LDY #imm (R282). -/
  | ldyImm (v : Byte)
  /-- 0xA1 LDA (zp,X) (R280). -/
  | ldaIzx (z : Byte)
  /-- 0xA2 LDX #imm (R281). -/
  | ldxImm (v : Byte)
  /-- 0xA4 LDY zp (R282). -/
  | ldyZp (z : Byte)
  /-- 0xA5 LDA zp (R280). -/
  | ldaZp (z : Byte)
  /-- 0xA6 LDX zp (R281). -/
  | ldxZp (z : Byte)
  /-- 0xA7 SMB2 zp (R355). -/
  | smb2 (z : Byte)
  /-- 0xA9 LDA #imm (R280). -/
  | ldaImm (v : Byte)
  /-- 0xAC LDY abs (R282). -/
  | ldyAbs (a : Addr)
  /-- 0xAD LDA abs (R280). -/
  | ldaAbs (a : Addr)
  /-- 0xAE LDX abs (R281). -/
  | ldxAbs (a : Addr)
  /-- 0xAF BBS2 zp,rel (R261). -/
  | bbs2 (z : Byte) (off : Int)
  /-- 0xB0 BCS rel (R247). -/
  | bcs (off : Int)
  /-- 0xB1 LDA (zp),Y (R280). -/
  | ldaIzy (z : Byte)
  /-- 0xB2 LDA (zp) (R280). -/
  | ldaIzp (z : Byte)
  /-- 0xB4 LDY zp,X (R282). -/
  | ldyZpx (z : Byte)
  /-- 0xB5 LDA zp,X (R280). -/
  | ldaZpx (z : Byte)
  /-- 0xB6 LDX zp,Y (R281). -/
  | ldxZpy (z : Byte)
  /-- 0xB7 SMB3 zp (R356). -/
  | smb3 (z : Byte)
  /-- 0xB9 LDA abs,Y (R280). -/
  | ldaAbsy (a : Addr)
  /-- 0xBC LDY abs,X (R282). -/
  | ldyAbsx (a : Addr)
  /-- 0xBD LDA abs,X (R280). -/
  | ldaAbsx (a : Addr)
  /-- 0xBE LDX abs,Y (R281). -/
  | ldxAbsy (a : Addr)
  /-- 0xBF BBS3 zp,rel (R262). -/
  | bbs3 (z : Byte) (off : Int)
  /-- 0xC0 CPY #imm (R313). -/
  | cpyImm (v : Byte)
  /-- 0xC1 CMP (zp,X) (R311). -/
  | cmpIzx (z : Byte)
  /-- 0xC2 NOP #imm (R428, reserved). -/
  | nopC2 (v : Byte)
  /-- 0xC4 CPY zp (R313). -/
  | cpyZp (z : Byte)
  /-- 0xC5 CMP zp (R311). -/
  | cmpZp (z : Byte)
  /-- 0xC6 DEC zp (R336). -/
  | decZp (z : Byte)
  /-- 0xC7 SMB4 zp (R357). -/
  | smb4 (z : Byte)
  /-- 0xC9 CMP #imm (R311). -/
  | cmpImm (v : Byte)
  /-- 0xCC CPY abs (R313). -/
  | cpyAbs (a : Addr)
  /-- 0xCD CMP abs (R311). -/
  | cmpAbs (a : Addr)
  /-- 0xCE DEC abs (R336). -/
  | decAbs (a : Addr)
  /-- 0xCF BBS4 zp,rel (R263). -/
  | bbs4 (z : Byte) (off : Int)
  /-- 0xD0 BNE rel (R248). -/
  | bne (off : Int)
  /-- 0xD1 CMP (zp),Y (R311). -/
  | cmpIzy (z : Byte)
  /-- 0xD2 CMP (zp) (R311). -/
  | cmpIzp (z : Byte)
  /-- 0xD4 NOP zp,X (R431, reserved). -/
  | nopD4 (z : Byte)
  /-- 0xD5 CMP zp,X (R311). -/
  | cmpZpx (z : Byte)
  /-- 0xD6 DEC zp,X (R336). -/
  | decZpx (z : Byte)
  /-- 0xD7 SMB5 zp (R358). -/
  | smb5 (z : Byte)
  /-- 0xD9 CMP abs,Y (R311). -/
  | cmpAbsy (a : Addr)
  /-- 0xDC NOP abs (R432, reserved). -/
  | nopDC (a : Addr)
  /-- 0xDD CMP abs,X (R311). -/
  | cmpAbsx (a : Addr)
  /-- 0xDE DEC abs,X (R336). -/
  | decAbsx (a : Addr)
  /-- 0xDF BBS5 zp,rel (R264). -/
  | bbs5 (z : Byte) (off : Int)
  /-- 0xE0 CPX #imm (R312). -/
  | cpxImm (v : Byte)
  /-- 0xE1 SBC (zp,X) (R307). -/
  | sbcIzx (z : Byte)
  /-- 0xE2 NOP #imm (R428, reserved). -/
  | nopE2 (v : Byte)
  /-- 0xE4 CPX zp (R312). -/
  | cpxZp (z : Byte)
  /-- 0xE5 SBC zp (R307). -/
  | sbcZp (z : Byte)
  /-- 0xE6 INC zp (R335). -/
  | incZp (z : Byte)
  /-- 0xE7 SMB6 zp (R359). -/
  | smb6 (z : Byte)
  /-- 0xE9 SBC #imm (R307). -/
  | sbcImm (v : Byte)
  /-- 0xEC CPX abs (R312). -/
  | cpxAbs (a : Addr)
  /-- 0xED SBC abs (R307). -/
  | sbcAbs (a : Addr)
  /-- 0xEE INC abs (R335). -/
  | incAbs (a : Addr)
  /-- 0xEF BBS6 zp,rel (R265). -/
  | bbs6 (z : Byte) (off : Int)
  /-- 0xF0 BEQ rel (R249). -/
  | beq (off : Int)
  /-- 0xF1 SBC (zp),Y (R307). -/
  | sbcIzy (z : Byte)
  /-- 0xF2 SBC (zp) (R307). -/
  | sbcIzp (z : Byte)
  /-- 0xF4 NOP zp,X (R431, reserved). -/
  | nopF4 (z : Byte)
  /-- 0xF5 SBC zp,X (R307). -/
  | sbcZpx (z : Byte)
  /-- 0xF6 INC zp,X (R335). -/
  | incZpx (z : Byte)
  /-- 0xF7 SMB7 zp (R360). -/
  | smb7 (z : Byte)
  /-- 0xF9 SBC abs,Y (R307). -/
  | sbcAbsy (a : Addr)
  /-- 0xFC NOP abs (R432, reserved). -/
  | nopFC (a : Addr)
  /-- 0xFD SBC abs,X (R307). -/
  | sbcAbsx (a : Addr)
  /-- 0xFE INC abs,X (R335). -/
  | incAbsx (a : Addr)
  /-- 0xFF BBS7 zp,rel (R266). -/
  | bbs7 (z : Byte) (off : Int)
  /-- 0x03 NOP (R429, reserved). -/
  | nop03
  /-- 0x08 PHP (R388). -/
  | php
  /-- 0x0A ASL A (R331). -/
  | aslAcc
  /-- 0x0B NOP (R429, reserved). -/
  | nop0B
  /-- 0x13 NOP (R429, reserved). -/
  | nop13
  /-- 0x18 CLC (R395). -/
  | clc
  /-- 0x1A INC A (R335). -/
  | incAcc
  /-- 0x1B NOP (R429, reserved). -/
  | nop1B
  /-- 0x23 NOP (R429, reserved). -/
  | nop23
  /-- 0x28 PLP (R392). -/
  | plp
  /-- 0x2A ROL A (R333). -/
  | rolAcc
  /-- 0x2B NOP (R429, reserved). -/
  | nop2B
  /-- 0x33 NOP (R429, reserved). -/
  | nop33
  /-- 0x38 SEC (R396). -/
  | sec
  /-- 0x3A DEC A (R336). -/
  | decAcc
  /-- 0x3B NOP (R429, reserved). -/
  | nop3B
  /-- 0x40 RTI (R423). -/
  | rti
  /-- 0x43 NOP (R429, reserved). -/
  | nop43
  /-- 0x48 PHA (R387). -/
  | pha
  /-- 0x4A LSR A (R332). -/
  | lsrAcc
  /-- 0x4B NOP (R429, reserved). -/
  | nop4B
  /-- 0x53 NOP (R429, reserved). -/
  | nop53
  /-- 0x58 CLI (R397). -/
  | cli
  /-- 0x5A PHY (R390). -/
  | phy
  /-- 0x5B NOP (R429, reserved). -/
  | nop5B
  /-- 0x60 RTS (R422). -/
  | rts
  /-- 0x63 NOP (R429, reserved). -/
  | nop63
  /-- 0x68 PLA (R391). -/
  | pla
  /-- 0x6A ROR A (R334). -/
  | rorAcc
  /-- 0x6B NOP (R429, reserved). -/
  | nop6B
  /-- 0x73 NOP (R429, reserved). -/
  | nop73
  /-- 0x78 SEI (R398). -/
  | sei
  /-- 0x7A PLY (R394). -/
  | ply
  /-- 0x7B NOP (R429, reserved). -/
  | nop7B
  /-- 0x83 NOP (R429, reserved). -/
  | nop83
  /-- 0x88 DEY (R340). -/
  | dey
  /-- 0x8A TXA (R383). -/
  | txa
  /-- 0x8B NOP (R429, reserved). -/
  | nop8B
  /-- 0x93 NOP (R429, reserved). -/
  | nop93
  /-- 0x98 TYA (R384). -/
  | tya
  /-- 0x9A TXS (R386). -/
  | txs
  /-- 0x9B NOP (R429, reserved). -/
  | nop9B
  /-- 0xA3 NOP (R429, reserved). -/
  | nopA3
  /-- 0xA8 TAY (R382). -/
  | tay
  /-- 0xAA TAX (R381). -/
  | tax
  /-- 0xAB NOP (R429, reserved). -/
  | nopAB
  /-- 0xB3 NOP (R429, reserved). -/
  | nopB3
  /-- 0xB8 CLV (R401). -/
  | clv
  /-- 0xBA TSX (R385). -/
  | tsx
  /-- 0xBB NOP (R429, reserved). -/
  | nopBB
  /-- 0xC3 NOP (R429, reserved). -/
  | nopC3
  /-- 0xC8 INY (R338). -/
  | iny
  /-- 0xCA DEX (R339). -/
  | dex
  /-- 0xCB WAI (R425). -/
  | wai
  /-- 0xD3 NOP (R429, reserved). -/
  | nopD3
  /-- 0xD8 CLD (R399). -/
  | cld
  /-- 0xDA PHX (R389). -/
  | phx
  /-- 0xDB STP (R426). -/
  | stp
  /-- 0xE3 NOP (R429, reserved). -/
  | nopE3
  /-- 0xE8 INX (R337). -/
  | inx
  /-- 0xEA NOP (R427). -/
  | nop
  /-- 0xEB NOP (R429, reserved). -/
  | nopEB
  /-- 0xF3 NOP (R429, reserved). -/
  | nopF3
  /-- 0xF8 SED (R400). -/
  | sed
  /-- 0xFA PLX (R393). -/
  | plx
  /-- 0xFB NOP (R429, reserved). -/
  | nopFB
deriving DecidableEq, Repr

end Sys2Proof
end

