-- ==== Sys2Proof/Machine/Dispatch.lean ====
section
/-! DEFINITION. The dispatch: one meaning for each instruction. -/

namespace Sys2Proof.Machine

def exec (i : Instr) (s : State) : Host.Outcome State Fault Refusal :=
  match i with
  | .brk sig => Sys2Proof.Machine.execBrk sig s
  | .oraIzx z => Sys2Proof.Machine.execOraIzx z s
  | .nop02 v => Sys2Proof.Machine.execNop02 v s
  | .nop03 => Sys2Proof.Machine.execNop03 s
  | .tsbZp z => Sys2Proof.Machine.execTsbZp z s
  | .oraZp z => Sys2Proof.Machine.execOraZp z s
  | .aslZp z => Sys2Proof.Machine.execAslZp z s
  | .rmb0 z => Sys2Proof.Machine.execRmb0 z s
  | .php => Sys2Proof.Machine.execPhp s
  | .oraImm v => Sys2Proof.Machine.execOraImm v s
  | .aslAcc => Sys2Proof.Machine.execAslAcc s
  | .nop0B => Sys2Proof.Machine.execNop0B s
  | .tsbAbs a => Sys2Proof.Machine.execTsbAbs a s
  | .oraAbs a => Sys2Proof.Machine.execOraAbs a s
  | .aslAbs a => Sys2Proof.Machine.execAslAbs a s
  | .bbr0 z off => Sys2Proof.Machine.execBbr0 z off s
  | .bpl off => Sys2Proof.Machine.execBpl off s
  | .oraIzy z => Sys2Proof.Machine.execOraIzy z s
  | .oraIzp z => Sys2Proof.Machine.execOraIzp z s
  | .nop13 => Sys2Proof.Machine.execNop13 s
  | .trbZp z => Sys2Proof.Machine.execTrbZp z s
  | .oraZpx z => Sys2Proof.Machine.execOraZpx z s
  | .aslZpx z => Sys2Proof.Machine.execAslZpx z s
  | .rmb1 z => Sys2Proof.Machine.execRmb1 z s
  | .clc => Sys2Proof.Machine.execClc s
  | .oraAbsy a => Sys2Proof.Machine.execOraAbsy a s
  | .incAcc => Sys2Proof.Machine.execIncAcc s
  | .nop1B => Sys2Proof.Machine.execNop1B s
  | .trbAbs a => Sys2Proof.Machine.execTrbAbs a s
  | .oraAbsx a => Sys2Proof.Machine.execOraAbsx a s
  | .aslAbsx a => Sys2Proof.Machine.execAslAbsx a s
  | .bbr1 z off => Sys2Proof.Machine.execBbr1 z off s
  | .jsr a => Sys2Proof.Machine.execJsr a s
  | .andIzx z => Sys2Proof.Machine.execAndIzx z s
  | .nop22 v => Sys2Proof.Machine.execNop22 v s
  | .nop23 => Sys2Proof.Machine.execNop23 s
  | .bitZp z => Sys2Proof.Machine.execBitZp z s
  | .andZp z => Sys2Proof.Machine.execAndZp z s
  | .rolZp z => Sys2Proof.Machine.execRolZp z s
  | .rmb2 z => Sys2Proof.Machine.execRmb2 z s
  | .plp => Sys2Proof.Machine.execPlp s
  | .andImm v => Sys2Proof.Machine.execAndImm v s
  | .rolAcc => Sys2Proof.Machine.execRolAcc s
  | .nop2B => Sys2Proof.Machine.execNop2B s
  | .bitAbs a => Sys2Proof.Machine.execBitAbs a s
  | .andAbs a => Sys2Proof.Machine.execAndAbs a s
  | .rolAbs a => Sys2Proof.Machine.execRolAbs a s
  | .bbr2 z off => Sys2Proof.Machine.execBbr2 z off s
  | .bmi off => Sys2Proof.Machine.execBmi off s
  | .andIzy z => Sys2Proof.Machine.execAndIzy z s
  | .andIzp z => Sys2Proof.Machine.execAndIzp z s
  | .nop33 => Sys2Proof.Machine.execNop33 s
  | .bitZpx z => Sys2Proof.Machine.execBitZpx z s
  | .andZpx z => Sys2Proof.Machine.execAndZpx z s
  | .rolZpx z => Sys2Proof.Machine.execRolZpx z s
  | .rmb3 z => Sys2Proof.Machine.execRmb3 z s
  | .sec => Sys2Proof.Machine.execSec s
  | .andAbsy a => Sys2Proof.Machine.execAndAbsy a s
  | .decAcc => Sys2Proof.Machine.execDecAcc s
  | .nop3B => Sys2Proof.Machine.execNop3B s
  | .bitAbsx a => Sys2Proof.Machine.execBitAbsx a s
  | .andAbsx a => Sys2Proof.Machine.execAndAbsx a s
  | .rolAbsx a => Sys2Proof.Machine.execRolAbsx a s
  | .bbr3 z off => Sys2Proof.Machine.execBbr3 z off s
  | .rti => Sys2Proof.Machine.execRti s
  | .eorIzx z => Sys2Proof.Machine.execEorIzx z s
  | .nop42 v => Sys2Proof.Machine.execNop42 v s
  | .nop43 => Sys2Proof.Machine.execNop43 s
  | .nop44 z => Sys2Proof.Machine.execNop44 z s
  | .eorZp z => Sys2Proof.Machine.execEorZp z s
  | .lsrZp z => Sys2Proof.Machine.execLsrZp z s
  | .rmb4 z => Sys2Proof.Machine.execRmb4 z s
  | .pha => Sys2Proof.Machine.execPha s
  | .eorImm v => Sys2Proof.Machine.execEorImm v s
  | .lsrAcc => Sys2Proof.Machine.execLsrAcc s
  | .nop4B => Sys2Proof.Machine.execNop4B s
  | .jmpAbs a => Sys2Proof.Machine.execJmpAbs a s
  | .eorAbs a => Sys2Proof.Machine.execEorAbs a s
  | .lsrAbs a => Sys2Proof.Machine.execLsrAbs a s
  | .bbr4 z off => Sys2Proof.Machine.execBbr4 z off s
  | .bvc off => Sys2Proof.Machine.execBvc off s
  | .eorIzy z => Sys2Proof.Machine.execEorIzy z s
  | .eorIzp z => Sys2Proof.Machine.execEorIzp z s
  | .nop53 => Sys2Proof.Machine.execNop53 s
  | .nop54 z => Sys2Proof.Machine.execNop54 z s
  | .eorZpx z => Sys2Proof.Machine.execEorZpx z s
  | .lsrZpx z => Sys2Proof.Machine.execLsrZpx z s
  | .rmb5 z => Sys2Proof.Machine.execRmb5 z s
  | .cli => Sys2Proof.Machine.execCli s
  | .eorAbsy a => Sys2Proof.Machine.execEorAbsy a s
  | .phy => Sys2Proof.Machine.execPhy s
  | .nop5B => Sys2Proof.Machine.execNop5B s
  | .nop5C a => Sys2Proof.Machine.execNop5C a s
  | .eorAbsx a => Sys2Proof.Machine.execEorAbsx a s
  | .lsrAbsx a => Sys2Proof.Machine.execLsrAbsx a s
  | .bbr5 z off => Sys2Proof.Machine.execBbr5 z off s
  | .rts => Sys2Proof.Machine.execRts s
  | .adcIzx z => Sys2Proof.Machine.execAdcIzx z s
  | .nop62 v => Sys2Proof.Machine.execNop62 v s
  | .nop63 => Sys2Proof.Machine.execNop63 s
  | .stzZp z => Sys2Proof.Machine.execStzZp z s
  | .adcZp z => Sys2Proof.Machine.execAdcZp z s
  | .rorZp z => Sys2Proof.Machine.execRorZp z s
  | .rmb6 z => Sys2Proof.Machine.execRmb6 z s
  | .pla => Sys2Proof.Machine.execPla s
  | .adcImm v => Sys2Proof.Machine.execAdcImm v s
  | .rorAcc => Sys2Proof.Machine.execRorAcc s
  | .nop6B => Sys2Proof.Machine.execNop6B s
  | .jmpInd a => Sys2Proof.Machine.execJmpInd a s
  | .adcAbs a => Sys2Proof.Machine.execAdcAbs a s
  | .rorAbs a => Sys2Proof.Machine.execRorAbs a s
  | .bbr6 z off => Sys2Proof.Machine.execBbr6 z off s
  | .bvs off => Sys2Proof.Machine.execBvs off s
  | .adcIzy z => Sys2Proof.Machine.execAdcIzy z s
  | .adcIzp z => Sys2Proof.Machine.execAdcIzp z s
  | .nop73 => Sys2Proof.Machine.execNop73 s
  | .stzZpx z => Sys2Proof.Machine.execStzZpx z s
  | .adcZpx z => Sys2Proof.Machine.execAdcZpx z s
  | .rorZpx z => Sys2Proof.Machine.execRorZpx z s
  | .rmb7 z => Sys2Proof.Machine.execRmb7 z s
  | .sei => Sys2Proof.Machine.execSei s
  | .adcAbsy a => Sys2Proof.Machine.execAdcAbsy a s
  | .ply => Sys2Proof.Machine.execPly s
  | .nop7B => Sys2Proof.Machine.execNop7B s
  | .jmpIax a => Sys2Proof.Machine.execJmpIax a s
  | .adcAbsx a => Sys2Proof.Machine.execAdcAbsx a s
  | .rorAbsx a => Sys2Proof.Machine.execRorAbsx a s
  | .bbr7 z off => Sys2Proof.Machine.execBbr7 z off s
  | .bra off => Sys2Proof.Machine.execBra off s
  | .staIzx z => Sys2Proof.Machine.execStaIzx z s
  | .nop82 v => Sys2Proof.Machine.execNop82 v s
  | .nop83 => Sys2Proof.Machine.execNop83 s
  | .styZp z => Sys2Proof.Machine.execStyZp z s
  | .staZp z => Sys2Proof.Machine.execStaZp z s
  | .stxZp z => Sys2Proof.Machine.execStxZp z s
  | .smb0 z => Sys2Proof.Machine.execSmb0 z s
  | .dey => Sys2Proof.Machine.execDey s
  | .bitImm v => Sys2Proof.Machine.execBitImm v s
  | .txa => Sys2Proof.Machine.execTxa s
  | .nop8B => Sys2Proof.Machine.execNop8B s
  | .styAbs a => Sys2Proof.Machine.execStyAbs a s
  | .staAbs a => Sys2Proof.Machine.execStaAbs a s
  | .stxAbs a => Sys2Proof.Machine.execStxAbs a s
  | .bbs0 z off => Sys2Proof.Machine.execBbs0 z off s
  | .bcc off => Sys2Proof.Machine.execBcc off s
  | .staIzy z => Sys2Proof.Machine.execStaIzy z s
  | .staIzp z => Sys2Proof.Machine.execStaIzp z s
  | .nop93 => Sys2Proof.Machine.execNop93 s
  | .styZpx z => Sys2Proof.Machine.execStyZpx z s
  | .staZpx z => Sys2Proof.Machine.execStaZpx z s
  | .stxZpy z => Sys2Proof.Machine.execStxZpy z s
  | .smb1 z => Sys2Proof.Machine.execSmb1 z s
  | .tya => Sys2Proof.Machine.execTya s
  | .staAbsy a => Sys2Proof.Machine.execStaAbsy a s
  | .txs => Sys2Proof.Machine.execTxs s
  | .nop9B => Sys2Proof.Machine.execNop9B s
  | .stzAbs a => Sys2Proof.Machine.execStzAbs a s
  | .staAbsx a => Sys2Proof.Machine.execStaAbsx a s
  | .stzAbsx a => Sys2Proof.Machine.execStzAbsx a s
  | .bbs1 z off => Sys2Proof.Machine.execBbs1 z off s
  | .ldyImm v => Sys2Proof.Machine.execLdyImm v s
  | .ldaIzx z => Sys2Proof.Machine.execLdaIzx z s
  | .ldxImm v => Sys2Proof.Machine.execLdxImm v s
  | .nopA3 => Sys2Proof.Machine.execNopA3 s
  | .ldyZp z => Sys2Proof.Machine.execLdyZp z s
  | .ldaZp z => Sys2Proof.Machine.execLdaZp z s
  | .ldxZp z => Sys2Proof.Machine.execLdxZp z s
  | .smb2 z => Sys2Proof.Machine.execSmb2 z s
  | .tay => Sys2Proof.Machine.execTay s
  | .ldaImm v => Sys2Proof.Machine.execLdaImm v s
  | .tax => Sys2Proof.Machine.execTax s
  | .nopAB => Sys2Proof.Machine.execNopAB s
  | .ldyAbs a => Sys2Proof.Machine.execLdyAbs a s
  | .ldaAbs a => Sys2Proof.Machine.execLdaAbs a s
  | .ldxAbs a => Sys2Proof.Machine.execLdxAbs a s
  | .bbs2 z off => Sys2Proof.Machine.execBbs2 z off s
  | .bcs off => Sys2Proof.Machine.execBcs off s
  | .ldaIzy z => Sys2Proof.Machine.execLdaIzy z s
  | .ldaIzp z => Sys2Proof.Machine.execLdaIzp z s
  | .nopB3 => Sys2Proof.Machine.execNopB3 s
  | .ldyZpx z => Sys2Proof.Machine.execLdyZpx z s
  | .ldaZpx z => Sys2Proof.Machine.execLdaZpx z s
  | .ldxZpy z => Sys2Proof.Machine.execLdxZpy z s
  | .smb3 z => Sys2Proof.Machine.execSmb3 z s
  | .clv => Sys2Proof.Machine.execClv s
  | .ldaAbsy a => Sys2Proof.Machine.execLdaAbsy a s
  | .tsx => Sys2Proof.Machine.execTsx s
  | .nopBB => Sys2Proof.Machine.execNopBB s
  | .ldyAbsx a => Sys2Proof.Machine.execLdyAbsx a s
  | .ldaAbsx a => Sys2Proof.Machine.execLdaAbsx a s
  | .ldxAbsy a => Sys2Proof.Machine.execLdxAbsy a s
  | .bbs3 z off => Sys2Proof.Machine.execBbs3 z off s
  | .cpyImm v => Sys2Proof.Machine.execCpyImm v s
  | .cmpIzx z => Sys2Proof.Machine.execCmpIzx z s
  | .nopC2 v => Sys2Proof.Machine.execNopC2 v s
  | .nopC3 => Sys2Proof.Machine.execNopC3 s
  | .cpyZp z => Sys2Proof.Machine.execCpyZp z s
  | .cmpZp z => Sys2Proof.Machine.execCmpZp z s
  | .decZp z => Sys2Proof.Machine.execDecZp z s
  | .smb4 z => Sys2Proof.Machine.execSmb4 z s
  | .iny => Sys2Proof.Machine.execIny s
  | .cmpImm v => Sys2Proof.Machine.execCmpImm v s
  | .dex => Sys2Proof.Machine.execDex s
  | .wai => Sys2Proof.Machine.execWai s
  | .cpyAbs a => Sys2Proof.Machine.execCpyAbs a s
  | .cmpAbs a => Sys2Proof.Machine.execCmpAbs a s
  | .decAbs a => Sys2Proof.Machine.execDecAbs a s
  | .bbs4 z off => Sys2Proof.Machine.execBbs4 z off s
  | .bne off => Sys2Proof.Machine.execBne off s
  | .cmpIzy z => Sys2Proof.Machine.execCmpIzy z s
  | .cmpIzp z => Sys2Proof.Machine.execCmpIzp z s
  | .nopD3 => Sys2Proof.Machine.execNopD3 s
  | .nopD4 z => Sys2Proof.Machine.execNopD4 z s
  | .cmpZpx z => Sys2Proof.Machine.execCmpZpx z s
  | .decZpx z => Sys2Proof.Machine.execDecZpx z s
  | .smb5 z => Sys2Proof.Machine.execSmb5 z s
  | .cld => Sys2Proof.Machine.execCld s
  | .cmpAbsy a => Sys2Proof.Machine.execCmpAbsy a s
  | .phx => Sys2Proof.Machine.execPhx s
  | .stp => Sys2Proof.Machine.execStp s
  | .nopDC a => Sys2Proof.Machine.execNopDC a s
  | .cmpAbsx a => Sys2Proof.Machine.execCmpAbsx a s
  | .decAbsx a => Sys2Proof.Machine.execDecAbsx a s
  | .bbs5 z off => Sys2Proof.Machine.execBbs5 z off s
  | .cpxImm v => Sys2Proof.Machine.execCpxImm v s
  | .sbcIzx z => Sys2Proof.Machine.execSbcIzx z s
  | .nopE2 v => Sys2Proof.Machine.execNopE2 v s
  | .nopE3 => Sys2Proof.Machine.execNopE3 s
  | .cpxZp z => Sys2Proof.Machine.execCpxZp z s
  | .sbcZp z => Sys2Proof.Machine.execSbcZp z s
  | .incZp z => Sys2Proof.Machine.execIncZp z s
  | .smb6 z => Sys2Proof.Machine.execSmb6 z s
  | .inx => Sys2Proof.Machine.execInx s
  | .sbcImm v => Sys2Proof.Machine.execSbcImm v s
  | .nop => Sys2Proof.Machine.execNop s
  | .nopEB => Sys2Proof.Machine.execNopEB s
  | .cpxAbs a => Sys2Proof.Machine.execCpxAbs a s
  | .sbcAbs a => Sys2Proof.Machine.execSbcAbs a s
  | .incAbs a => Sys2Proof.Machine.execIncAbs a s
  | .bbs6 z off => Sys2Proof.Machine.execBbs6 z off s
  | .beq off => Sys2Proof.Machine.execBeq off s
  | .sbcIzy z => Sys2Proof.Machine.execSbcIzy z s
  | .sbcIzp z => Sys2Proof.Machine.execSbcIzp z s
  | .nopF3 => Sys2Proof.Machine.execNopF3 s
  | .nopF4 z => Sys2Proof.Machine.execNopF4 z s
  | .sbcZpx z => Sys2Proof.Machine.execSbcZpx z s
  | .incZpx z => Sys2Proof.Machine.execIncZpx z s
  | .smb7 z => Sys2Proof.Machine.execSmb7 z s
  | .sed => Sys2Proof.Machine.execSed s
  | .sbcAbsy a => Sys2Proof.Machine.execSbcAbsy a s
  | .plx => Sys2Proof.Machine.execPlx s
  | .nopFB => Sys2Proof.Machine.execNopFB s
  | .nopFC a => Sys2Proof.Machine.execNopFC a s
  | .sbcAbsx a => Sys2Proof.Machine.execSbcAbsx a s
  | .incAbsx a => Sys2Proof.Machine.execIncAbsx a s
  | .bbs7 z off => Sys2Proof.Machine.execBbs7 z off s

end Sys2Proof.Machine
end

