-- ==== Sys2Proof/WellFormed.lean ====
section
/-! DEFINITION. Well-formed instructions: a branch offset fits its byte (30_encoding R145, R151). Every other operand is
well formed by its type. -/

namespace Sys2Proof

/-- A branch offset is in -128 .. 127 (30_encoding R145, R151). -/
def offsetFits (off : Int) : Bool := decide (-128 ≤ off) && decide (off ≤ 127)

/-- The well-formed instructions. -/
def Instr.wellFormed (i : Instr) : Bool :=
  match i with
  | .bpl off | .bmi off | .bvc off | .bvs off | .bra off | .bcc off | .bcs off | .bne off | .beq off => offsetFits off
  | .bbr0 _ off | .bbr1 _ off | .bbr2 _ off | .bbr3 _ off | .bbr4 _ off | .bbr5 _ off | .bbr6 _ off
  | .bbr7 _ off | .bbs0 _ off | .bbs1 _ off | .bbs2 _ off | .bbs3 _ off | .bbs4 _ off | .bbs5 _ off
  | .bbs6 _ off | .bbs7 _ off => offsetFits off
  | .brk _ | .oraIzx _ | .nop02 _ | .nop03 | .tsbZp _ | .oraZp _ | .aslZp _ | .rmb0 _ | .php | .oraImm _
  | .aslAcc | .nop0B | .tsbAbs _ | .oraAbs _ | .aslAbs _ | .oraIzy _ | .oraIzp _ | .nop13 | .trbZp _ | .oraZpx _
  | .aslZpx _ | .rmb1 _ | .clc | .oraAbsy _ | .incAcc | .nop1B | .trbAbs _ | .oraAbsx _ | .aslAbsx _ | .jsr _
  | .andIzx _ | .nop22 _ | .nop23 | .bitZp _ | .andZp _ | .rolZp _ | .rmb2 _ | .plp | .andImm _ | .rolAcc
  | .nop2B | .bitAbs _ | .andAbs _ | .rolAbs _ | .andIzy _ | .andIzp _ | .nop33 | .bitZpx _ | .andZpx _
  | .rolZpx _ | .rmb3 _ | .sec | .andAbsy _ | .decAcc | .nop3B | .bitAbsx _ | .andAbsx _ | .rolAbsx _ | .rti
  | .eorIzx _ | .nop42 _ | .nop43 | .nop44 _ | .eorZp _ | .lsrZp _ | .rmb4 _ | .pha | .eorImm _ | .lsrAcc
  | .nop4B | .jmpAbs _ | .eorAbs _ | .lsrAbs _ | .eorIzy _ | .eorIzp _ | .nop53 | .nop54 _ | .eorZpx _
  | .lsrZpx _ | .rmb5 _ | .cli | .eorAbsy _ | .phy | .nop5B | .nop5C _ | .eorAbsx _ | .lsrAbsx _ | .rts
  | .adcIzx _ | .nop62 _ | .nop63 | .stzZp _ | .adcZp _ | .rorZp _ | .rmb6 _ | .pla | .adcImm _ | .rorAcc
  | .nop6B | .jmpInd _ | .adcAbs _ | .rorAbs _ | .adcIzy _ | .adcIzp _ | .nop73 | .stzZpx _ | .adcZpx _
  | .rorZpx _ | .rmb7 _ | .sei | .adcAbsy _ | .ply | .nop7B | .jmpIax _ | .adcAbsx _ | .rorAbsx _ | .staIzx _
  | .nop82 _ | .nop83 | .styZp _ | .staZp _ | .stxZp _ | .smb0 _ | .dey | .bitImm _ | .txa | .nop8B | .styAbs _
  | .staAbs _ | .stxAbs _ | .staIzy _ | .staIzp _ | .nop93 | .styZpx _ | .staZpx _ | .stxZpy _ | .smb1 _ | .tya
  | .staAbsy _ | .txs | .nop9B | .stzAbs _ | .staAbsx _ | .stzAbsx _ | .ldyImm _ | .ldaIzx _ | .ldxImm _
  | .nopA3 | .ldyZp _ | .ldaZp _ | .ldxZp _ | .smb2 _ | .tay | .ldaImm _ | .tax | .nopAB | .ldyAbs _ | .ldaAbs _
  | .ldxAbs _ | .ldaIzy _ | .ldaIzp _ | .nopB3 | .ldyZpx _ | .ldaZpx _ | .ldxZpy _ | .smb3 _ | .clv | .ldaAbsy _
  | .tsx | .nopBB | .ldyAbsx _ | .ldaAbsx _ | .ldxAbsy _ | .cpyImm _ | .cmpIzx _ | .nopC2 _ | .nopC3 | .cpyZp _
  | .cmpZp _ | .decZp _ | .smb4 _ | .iny | .cmpImm _ | .dex | .wai | .cpyAbs _ | .cmpAbs _ | .decAbs _
  | .cmpIzy _ | .cmpIzp _ | .nopD3 | .nopD4 _ | .cmpZpx _ | .decZpx _ | .smb5 _ | .cld | .cmpAbsy _ | .phx
  | .stp | .nopDC _ | .cmpAbsx _ | .decAbsx _ | .cpxImm _ | .sbcIzx _ | .nopE2 _ | .nopE3 | .cpxZp _ | .sbcZp _
  | .incZp _ | .smb6 _ | .inx | .sbcImm _ | .nop | .nopEB | .cpxAbs _ | .sbcAbs _ | .incAbs _ | .sbcIzy _
  | .sbcIzp _ | .nopF3 | .nopF4 _ | .sbcZpx _ | .incZpx _ | .smb7 _ | .sed | .sbcAbsy _ | .plx | .nopFB
  | .nopFC _ | .sbcAbsx _ | .incAbsx _ => true

end Sys2Proof
end

