-- ==== Sys2Proof/Decode.lean ====
section
/-! DEFINITION. The decoder and the encoder (30_encoding R140 to R149). The opcode matrix is R148, row opcode[7:4],
column opcode[3:0]; operand bytes are laid out as in R141. -/

namespace Sys2Proof

open Sys2Proof.Machine

/-- What the two bytes after the opcode make of a row of the matrix. -/
abbrev OpcodeEntry := Byte → Byte → Instr

/-- Opcodes 0x00 to 0x0F. -/
def opcodeRow0 : Vector OpcodeEntry 16 := #v[
  fun b _ => .brk b,
  fun b _ => .oraIzx b,
  fun b _ => .nop02 b,
  fun _ _ => .nop03,
  fun b _ => .tsbZp b,
  fun b _ => .oraZp b,
  fun b _ => .aslZp b,
  fun b _ => .rmb0 b,
  fun _ _ => .php,
  fun b _ => .oraImm b,
  fun _ _ => .aslAcc,
  fun _ _ => .nop0B,
  fun b c => .tsbAbs (joinBytes c b),
  fun b c => .oraAbs (joinBytes c b),
  fun b c => .aslAbs (joinBytes c b),
  fun b c => .bbr0 b c.toInt]

/-- Opcodes 0x10 to 0x1F. -/
def opcodeRow1 : Vector OpcodeEntry 16 := #v[
  fun b _ => .bpl b.toInt,
  fun b _ => .oraIzy b,
  fun b _ => .oraIzp b,
  fun _ _ => .nop13,
  fun b _ => .trbZp b,
  fun b _ => .oraZpx b,
  fun b _ => .aslZpx b,
  fun b _ => .rmb1 b,
  fun _ _ => .clc,
  fun b c => .oraAbsy (joinBytes c b),
  fun _ _ => .incAcc,
  fun _ _ => .nop1B,
  fun b c => .trbAbs (joinBytes c b),
  fun b c => .oraAbsx (joinBytes c b),
  fun b c => .aslAbsx (joinBytes c b),
  fun b c => .bbr1 b c.toInt]

/-- Opcodes 0x20 to 0x2F. -/
def opcodeRow2 : Vector OpcodeEntry 16 := #v[
  fun b c => .jsr (joinBytes c b),
  fun b _ => .andIzx b,
  fun b _ => .nop22 b,
  fun _ _ => .nop23,
  fun b _ => .bitZp b,
  fun b _ => .andZp b,
  fun b _ => .rolZp b,
  fun b _ => .rmb2 b,
  fun _ _ => .plp,
  fun b _ => .andImm b,
  fun _ _ => .rolAcc,
  fun _ _ => .nop2B,
  fun b c => .bitAbs (joinBytes c b),
  fun b c => .andAbs (joinBytes c b),
  fun b c => .rolAbs (joinBytes c b),
  fun b c => .bbr2 b c.toInt]

/-- Opcodes 0x30 to 0x3F. -/
def opcodeRow3 : Vector OpcodeEntry 16 := #v[
  fun b _ => .bmi b.toInt,
  fun b _ => .andIzy b,
  fun b _ => .andIzp b,
  fun _ _ => .nop33,
  fun b _ => .bitZpx b,
  fun b _ => .andZpx b,
  fun b _ => .rolZpx b,
  fun b _ => .rmb3 b,
  fun _ _ => .sec,
  fun b c => .andAbsy (joinBytes c b),
  fun _ _ => .decAcc,
  fun _ _ => .nop3B,
  fun b c => .bitAbsx (joinBytes c b),
  fun b c => .andAbsx (joinBytes c b),
  fun b c => .rolAbsx (joinBytes c b),
  fun b c => .bbr3 b c.toInt]

/-- Opcodes 0x40 to 0x4F. -/
def opcodeRow4 : Vector OpcodeEntry 16 := #v[
  fun _ _ => .rti,
  fun b _ => .eorIzx b,
  fun b _ => .nop42 b,
  fun _ _ => .nop43,
  fun b _ => .nop44 b,
  fun b _ => .eorZp b,
  fun b _ => .lsrZp b,
  fun b _ => .rmb4 b,
  fun _ _ => .pha,
  fun b _ => .eorImm b,
  fun _ _ => .lsrAcc,
  fun _ _ => .nop4B,
  fun b c => .jmpAbs (joinBytes c b),
  fun b c => .eorAbs (joinBytes c b),
  fun b c => .lsrAbs (joinBytes c b),
  fun b c => .bbr4 b c.toInt]

/-- Opcodes 0x50 to 0x5F. -/
def opcodeRow5 : Vector OpcodeEntry 16 := #v[
  fun b _ => .bvc b.toInt,
  fun b _ => .eorIzy b,
  fun b _ => .eorIzp b,
  fun _ _ => .nop53,
  fun b _ => .nop54 b,
  fun b _ => .eorZpx b,
  fun b _ => .lsrZpx b,
  fun b _ => .rmb5 b,
  fun _ _ => .cli,
  fun b c => .eorAbsy (joinBytes c b),
  fun _ _ => .phy,
  fun _ _ => .nop5B,
  fun b c => .nop5C (joinBytes c b),
  fun b c => .eorAbsx (joinBytes c b),
  fun b c => .lsrAbsx (joinBytes c b),
  fun b c => .bbr5 b c.toInt]

/-- Opcodes 0x60 to 0x6F. -/
def opcodeRow6 : Vector OpcodeEntry 16 := #v[
  fun _ _ => .rts,
  fun b _ => .adcIzx b,
  fun b _ => .nop62 b,
  fun _ _ => .nop63,
  fun b _ => .stzZp b,
  fun b _ => .adcZp b,
  fun b _ => .rorZp b,
  fun b _ => .rmb6 b,
  fun _ _ => .pla,
  fun b _ => .adcImm b,
  fun _ _ => .rorAcc,
  fun _ _ => .nop6B,
  fun b c => .jmpInd (joinBytes c b),
  fun b c => .adcAbs (joinBytes c b),
  fun b c => .rorAbs (joinBytes c b),
  fun b c => .bbr6 b c.toInt]

/-- Opcodes 0x70 to 0x7F. -/
def opcodeRow7 : Vector OpcodeEntry 16 := #v[
  fun b _ => .bvs b.toInt,
  fun b _ => .adcIzy b,
  fun b _ => .adcIzp b,
  fun _ _ => .nop73,
  fun b _ => .stzZpx b,
  fun b _ => .adcZpx b,
  fun b _ => .rorZpx b,
  fun b _ => .rmb7 b,
  fun _ _ => .sei,
  fun b c => .adcAbsy (joinBytes c b),
  fun _ _ => .ply,
  fun _ _ => .nop7B,
  fun b c => .jmpIax (joinBytes c b),
  fun b c => .adcAbsx (joinBytes c b),
  fun b c => .rorAbsx (joinBytes c b),
  fun b c => .bbr7 b c.toInt]

/-- Opcodes 0x80 to 0x8F. -/
def opcodeRow8 : Vector OpcodeEntry 16 := #v[
  fun b _ => .bra b.toInt,
  fun b _ => .staIzx b,
  fun b _ => .nop82 b,
  fun _ _ => .nop83,
  fun b _ => .styZp b,
  fun b _ => .staZp b,
  fun b _ => .stxZp b,
  fun b _ => .smb0 b,
  fun _ _ => .dey,
  fun b _ => .bitImm b,
  fun _ _ => .txa,
  fun _ _ => .nop8B,
  fun b c => .styAbs (joinBytes c b),
  fun b c => .staAbs (joinBytes c b),
  fun b c => .stxAbs (joinBytes c b),
  fun b c => .bbs0 b c.toInt]

/-- Opcodes 0x90 to 0x9F. -/
def opcodeRow9 : Vector OpcodeEntry 16 := #v[
  fun b _ => .bcc b.toInt,
  fun b _ => .staIzy b,
  fun b _ => .staIzp b,
  fun _ _ => .nop93,
  fun b _ => .styZpx b,
  fun b _ => .staZpx b,
  fun b _ => .stxZpy b,
  fun b _ => .smb1 b,
  fun _ _ => .tya,
  fun b c => .staAbsy (joinBytes c b),
  fun _ _ => .txs,
  fun _ _ => .nop9B,
  fun b c => .stzAbs (joinBytes c b),
  fun b c => .staAbsx (joinBytes c b),
  fun b c => .stzAbsx (joinBytes c b),
  fun b c => .bbs1 b c.toInt]

/-- Opcodes 0xA0 to 0xAF. -/
def opcodeRowA : Vector OpcodeEntry 16 := #v[
  fun b _ => .ldyImm b,
  fun b _ => .ldaIzx b,
  fun b _ => .ldxImm b,
  fun _ _ => .nopA3,
  fun b _ => .ldyZp b,
  fun b _ => .ldaZp b,
  fun b _ => .ldxZp b,
  fun b _ => .smb2 b,
  fun _ _ => .tay,
  fun b _ => .ldaImm b,
  fun _ _ => .tax,
  fun _ _ => .nopAB,
  fun b c => .ldyAbs (joinBytes c b),
  fun b c => .ldaAbs (joinBytes c b),
  fun b c => .ldxAbs (joinBytes c b),
  fun b c => .bbs2 b c.toInt]

/-- Opcodes 0xB0 to 0xBF. -/
def opcodeRowB : Vector OpcodeEntry 16 := #v[
  fun b _ => .bcs b.toInt,
  fun b _ => .ldaIzy b,
  fun b _ => .ldaIzp b,
  fun _ _ => .nopB3,
  fun b _ => .ldyZpx b,
  fun b _ => .ldaZpx b,
  fun b _ => .ldxZpy b,
  fun b _ => .smb3 b,
  fun _ _ => .clv,
  fun b c => .ldaAbsy (joinBytes c b),
  fun _ _ => .tsx,
  fun _ _ => .nopBB,
  fun b c => .ldyAbsx (joinBytes c b),
  fun b c => .ldaAbsx (joinBytes c b),
  fun b c => .ldxAbsy (joinBytes c b),
  fun b c => .bbs3 b c.toInt]

/-- Opcodes 0xC0 to 0xCF. -/
def opcodeRowC : Vector OpcodeEntry 16 := #v[
  fun b _ => .cpyImm b,
  fun b _ => .cmpIzx b,
  fun b _ => .nopC2 b,
  fun _ _ => .nopC3,
  fun b _ => .cpyZp b,
  fun b _ => .cmpZp b,
  fun b _ => .decZp b,
  fun b _ => .smb4 b,
  fun _ _ => .iny,
  fun b _ => .cmpImm b,
  fun _ _ => .dex,
  fun _ _ => .wai,
  fun b c => .cpyAbs (joinBytes c b),
  fun b c => .cmpAbs (joinBytes c b),
  fun b c => .decAbs (joinBytes c b),
  fun b c => .bbs4 b c.toInt]

/-- Opcodes 0xD0 to 0xDF. -/
def opcodeRowD : Vector OpcodeEntry 16 := #v[
  fun b _ => .bne b.toInt,
  fun b _ => .cmpIzy b,
  fun b _ => .cmpIzp b,
  fun _ _ => .nopD3,
  fun b _ => .nopD4 b,
  fun b _ => .cmpZpx b,
  fun b _ => .decZpx b,
  fun b _ => .smb5 b,
  fun _ _ => .cld,
  fun b c => .cmpAbsy (joinBytes c b),
  fun _ _ => .phx,
  fun _ _ => .stp,
  fun b c => .nopDC (joinBytes c b),
  fun b c => .cmpAbsx (joinBytes c b),
  fun b c => .decAbsx (joinBytes c b),
  fun b c => .bbs5 b c.toInt]

/-- Opcodes 0xE0 to 0xEF. -/
def opcodeRowE : Vector OpcodeEntry 16 := #v[
  fun b _ => .cpxImm b,
  fun b _ => .sbcIzx b,
  fun b _ => .nopE2 b,
  fun _ _ => .nopE3,
  fun b _ => .cpxZp b,
  fun b _ => .sbcZp b,
  fun b _ => .incZp b,
  fun b _ => .smb6 b,
  fun _ _ => .inx,
  fun b _ => .sbcImm b,
  fun _ _ => .nop,
  fun _ _ => .nopEB,
  fun b c => .cpxAbs (joinBytes c b),
  fun b c => .sbcAbs (joinBytes c b),
  fun b c => .incAbs (joinBytes c b),
  fun b c => .bbs6 b c.toInt]

/-- Opcodes 0xF0 to 0xFF. -/
def opcodeRowF : Vector OpcodeEntry 16 := #v[
  fun b _ => .beq b.toInt,
  fun b _ => .sbcIzy b,
  fun b _ => .sbcIzp b,
  fun _ _ => .nopF3,
  fun b _ => .nopF4 b,
  fun b _ => .sbcZpx b,
  fun b _ => .incZpx b,
  fun b _ => .smb7 b,
  fun _ _ => .sed,
  fun b c => .sbcAbsy (joinBytes c b),
  fun _ _ => .plx,
  fun _ _ => .nopFB,
  fun b c => .nopFC (joinBytes c b),
  fun b c => .sbcAbsx (joinBytes c b),
  fun b c => .incAbsx (joinBytes c b),
  fun b c => .bbs7 b c.toInt]

/-- The opcode matrix (30_encoding R148). -/
def opcodeMatrix : Vector (Vector OpcodeEntry 16) 16 := #v[
  opcodeRow0, opcodeRow1, opcodeRow2, opcodeRow3, opcodeRow4, opcodeRow5, opcodeRow6, opcodeRow7,
  opcodeRow8, opcodeRow9, opcodeRowA, opcodeRowB, opcodeRowC, opcodeRowD, opcodeRowE, opcodeRowF]

/-- The instruction lengths in bytes (30_encoding R140), laid out as the matrix. -/
def lengthMatrix : Vector (Vector Nat 16) 16 := #v[
  #v[2, 2, 2, 1, 2, 2, 2, 2, 1, 2, 1, 1, 3, 3, 3, 3],
  #v[2, 2, 2, 1, 2, 2, 2, 2, 1, 3, 1, 1, 3, 3, 3, 3],
  #v[3, 2, 2, 1, 2, 2, 2, 2, 1, 2, 1, 1, 3, 3, 3, 3],
  #v[2, 2, 2, 1, 2, 2, 2, 2, 1, 3, 1, 1, 3, 3, 3, 3],
  #v[1, 2, 2, 1, 2, 2, 2, 2, 1, 2, 1, 1, 3, 3, 3, 3],
  #v[2, 2, 2, 1, 2, 2, 2, 2, 1, 3, 1, 1, 3, 3, 3, 3],
  #v[1, 2, 2, 1, 2, 2, 2, 2, 1, 2, 1, 1, 3, 3, 3, 3],
  #v[2, 2, 2, 1, 2, 2, 2, 2, 1, 3, 1, 1, 3, 3, 3, 3],
  #v[2, 2, 2, 1, 2, 2, 2, 2, 1, 2, 1, 1, 3, 3, 3, 3],
  #v[2, 2, 2, 1, 2, 2, 2, 2, 1, 3, 1, 1, 3, 3, 3, 3],
  #v[2, 2, 2, 1, 2, 2, 2, 2, 1, 2, 1, 1, 3, 3, 3, 3],
  #v[2, 2, 2, 1, 2, 2, 2, 2, 1, 3, 1, 1, 3, 3, 3, 3],
  #v[2, 2, 2, 1, 2, 2, 2, 2, 1, 2, 1, 1, 3, 3, 3, 3],
  #v[2, 2, 2, 1, 2, 2, 2, 2, 1, 3, 1, 1, 3, 3, 3, 3],
  #v[2, 2, 2, 1, 2, 2, 2, 2, 1, 2, 1, 1, 3, 3, 3, 3],
  #v[2, 2, 2, 1, 2, 2, 2, 2, 1, 3, 1, 1, 3, 3, 3, 3]]

/-- The row number of an opcode. -/
def opcodeHi (op : Byte) : Fin 16 := (op.extractLsb' 4 4).toFin

/-- The column number of an opcode. -/
def opcodeLo (op : Byte) : Fin 16 := (op.extractLsb' 0 4).toFin

/-- The length of the instruction an opcode begins (30_encoding R140). -/
def lengthOf (op : Byte) : Nat := (lengthMatrix.get (opcodeHi op)).get (opcodeLo op)

/-- The instruction of an opcode and the two bytes after it; an operand byte past its length is not looked at. Total
on every byte (30_encoding R154). -/
def decodeBytes (op b c : Byte) : Instr := (opcodeMatrix.get (opcodeHi op)).get (opcodeLo op) b c

/-- Why bytes decode to nothing: there are too few of them. No opcode is refused here: each is a defined or a reserved
instruction (30_encoding R154). -/
inductive DecodeError where
  | empty
  | missingOperand (op : Byte) (needed : Nat)
deriving DecidableEq, Repr

/-- The first instruction of a byte list, with the rest of the list. -/
def decode (bytes : List Byte) : Except DecodeError (Instr × List Byte) :=
  match bytes with
  | [] => .error .empty
  | op :: rest =>
    match lengthOf op, rest with
    | 1, rest => .ok (decodeBytes op 0 0, rest)
    | 2, b :: rest => .ok (decodeBytes op b 0, rest)
    | 3, b :: c :: rest => .ok (decodeBytes op b c, rest)
    | needed, _ => .error (.missingOperand op needed)

/-- The bytes of an instruction (30_encoding R141), low byte of an address first (20_memory R74). -/
def encode (i : Instr) : List Byte :=
  match i with
  | .brk sig => [0x00, sig]
  | .oraIzx z => [0x01, z]
  | .nop02 v => [0x02, v]
  | .nop03 => [0x03]
  | .tsbZp z => [0x04, z]
  | .oraZp z => [0x05, z]
  | .aslZp z => [0x06, z]
  | .rmb0 z => [0x07, z]
  | .php => [0x08]
  | .oraImm v => [0x09, v]
  | .aslAcc => [0x0A]
  | .nop0B => [0x0B]
  | .tsbAbs a => [0x0C, loByte a, hiByte a]
  | .oraAbs a => [0x0D, loByte a, hiByte a]
  | .aslAbs a => [0x0E, loByte a, hiByte a]
  | .bbr0 z off => [0x0F, z, offsetByte off]
  | .bpl off => [0x10, offsetByte off]
  | .oraIzy z => [0x11, z]
  | .oraIzp z => [0x12, z]
  | .nop13 => [0x13]
  | .trbZp z => [0x14, z]
  | .oraZpx z => [0x15, z]
  | .aslZpx z => [0x16, z]
  | .rmb1 z => [0x17, z]
  | .clc => [0x18]
  | .oraAbsy a => [0x19, loByte a, hiByte a]
  | .incAcc => [0x1A]
  | .nop1B => [0x1B]
  | .trbAbs a => [0x1C, loByte a, hiByte a]
  | .oraAbsx a => [0x1D, loByte a, hiByte a]
  | .aslAbsx a => [0x1E, loByte a, hiByte a]
  | .bbr1 z off => [0x1F, z, offsetByte off]
  | .jsr a => [0x20, loByte a, hiByte a]
  | .andIzx z => [0x21, z]
  | .nop22 v => [0x22, v]
  | .nop23 => [0x23]
  | .bitZp z => [0x24, z]
  | .andZp z => [0x25, z]
  | .rolZp z => [0x26, z]
  | .rmb2 z => [0x27, z]
  | .plp => [0x28]
  | .andImm v => [0x29, v]
  | .rolAcc => [0x2A]
  | .nop2B => [0x2B]
  | .bitAbs a => [0x2C, loByte a, hiByte a]
  | .andAbs a => [0x2D, loByte a, hiByte a]
  | .rolAbs a => [0x2E, loByte a, hiByte a]
  | .bbr2 z off => [0x2F, z, offsetByte off]
  | .bmi off => [0x30, offsetByte off]
  | .andIzy z => [0x31, z]
  | .andIzp z => [0x32, z]
  | .nop33 => [0x33]
  | .bitZpx z => [0x34, z]
  | .andZpx z => [0x35, z]
  | .rolZpx z => [0x36, z]
  | .rmb3 z => [0x37, z]
  | .sec => [0x38]
  | .andAbsy a => [0x39, loByte a, hiByte a]
  | .decAcc => [0x3A]
  | .nop3B => [0x3B]
  | .bitAbsx a => [0x3C, loByte a, hiByte a]
  | .andAbsx a => [0x3D, loByte a, hiByte a]
  | .rolAbsx a => [0x3E, loByte a, hiByte a]
  | .bbr3 z off => [0x3F, z, offsetByte off]
  | .rti => [0x40]
  | .eorIzx z => [0x41, z]
  | .nop42 v => [0x42, v]
  | .nop43 => [0x43]
  | .nop44 z => [0x44, z]
  | .eorZp z => [0x45, z]
  | .lsrZp z => [0x46, z]
  | .rmb4 z => [0x47, z]
  | .pha => [0x48]
  | .eorImm v => [0x49, v]
  | .lsrAcc => [0x4A]
  | .nop4B => [0x4B]
  | .jmpAbs a => [0x4C, loByte a, hiByte a]
  | .eorAbs a => [0x4D, loByte a, hiByte a]
  | .lsrAbs a => [0x4E, loByte a, hiByte a]
  | .bbr4 z off => [0x4F, z, offsetByte off]
  | .bvc off => [0x50, offsetByte off]
  | .eorIzy z => [0x51, z]
  | .eorIzp z => [0x52, z]
  | .nop53 => [0x53]
  | .nop54 z => [0x54, z]
  | .eorZpx z => [0x55, z]
  | .lsrZpx z => [0x56, z]
  | .rmb5 z => [0x57, z]
  | .cli => [0x58]
  | .eorAbsy a => [0x59, loByte a, hiByte a]
  | .phy => [0x5A]
  | .nop5B => [0x5B]
  | .nop5C a => [0x5C, loByte a, hiByte a]
  | .eorAbsx a => [0x5D, loByte a, hiByte a]
  | .lsrAbsx a => [0x5E, loByte a, hiByte a]
  | .bbr5 z off => [0x5F, z, offsetByte off]
  | .rts => [0x60]
  | .adcIzx z => [0x61, z]
  | .nop62 v => [0x62, v]
  | .nop63 => [0x63]
  | .stzZp z => [0x64, z]
  | .adcZp z => [0x65, z]
  | .rorZp z => [0x66, z]
  | .rmb6 z => [0x67, z]
  | .pla => [0x68]
  | .adcImm v => [0x69, v]
  | .rorAcc => [0x6A]
  | .nop6B => [0x6B]
  | .jmpInd a => [0x6C, loByte a, hiByte a]
  | .adcAbs a => [0x6D, loByte a, hiByte a]
  | .rorAbs a => [0x6E, loByte a, hiByte a]
  | .bbr6 z off => [0x6F, z, offsetByte off]
  | .bvs off => [0x70, offsetByte off]
  | .adcIzy z => [0x71, z]
  | .adcIzp z => [0x72, z]
  | .nop73 => [0x73]
  | .stzZpx z => [0x74, z]
  | .adcZpx z => [0x75, z]
  | .rorZpx z => [0x76, z]
  | .rmb7 z => [0x77, z]
  | .sei => [0x78]
  | .adcAbsy a => [0x79, loByte a, hiByte a]
  | .ply => [0x7A]
  | .nop7B => [0x7B]
  | .jmpIax a => [0x7C, loByte a, hiByte a]
  | .adcAbsx a => [0x7D, loByte a, hiByte a]
  | .rorAbsx a => [0x7E, loByte a, hiByte a]
  | .bbr7 z off => [0x7F, z, offsetByte off]
  | .bra off => [0x80, offsetByte off]
  | .staIzx z => [0x81, z]
  | .nop82 v => [0x82, v]
  | .nop83 => [0x83]
  | .styZp z => [0x84, z]
  | .staZp z => [0x85, z]
  | .stxZp z => [0x86, z]
  | .smb0 z => [0x87, z]
  | .dey => [0x88]
  | .bitImm v => [0x89, v]
  | .txa => [0x8A]
  | .nop8B => [0x8B]
  | .styAbs a => [0x8C, loByte a, hiByte a]
  | .staAbs a => [0x8D, loByte a, hiByte a]
  | .stxAbs a => [0x8E, loByte a, hiByte a]
  | .bbs0 z off => [0x8F, z, offsetByte off]
  | .bcc off => [0x90, offsetByte off]
  | .staIzy z => [0x91, z]
  | .staIzp z => [0x92, z]
  | .nop93 => [0x93]
  | .styZpx z => [0x94, z]
  | .staZpx z => [0x95, z]
  | .stxZpy z => [0x96, z]
  | .smb1 z => [0x97, z]
  | .tya => [0x98]
  | .staAbsy a => [0x99, loByte a, hiByte a]
  | .txs => [0x9A]
  | .nop9B => [0x9B]
  | .stzAbs a => [0x9C, loByte a, hiByte a]
  | .staAbsx a => [0x9D, loByte a, hiByte a]
  | .stzAbsx a => [0x9E, loByte a, hiByte a]
  | .bbs1 z off => [0x9F, z, offsetByte off]
  | .ldyImm v => [0xA0, v]
  | .ldaIzx z => [0xA1, z]
  | .ldxImm v => [0xA2, v]
  | .nopA3 => [0xA3]
  | .ldyZp z => [0xA4, z]
  | .ldaZp z => [0xA5, z]
  | .ldxZp z => [0xA6, z]
  | .smb2 z => [0xA7, z]
  | .tay => [0xA8]
  | .ldaImm v => [0xA9, v]
  | .tax => [0xAA]
  | .nopAB => [0xAB]
  | .ldyAbs a => [0xAC, loByte a, hiByte a]
  | .ldaAbs a => [0xAD, loByte a, hiByte a]
  | .ldxAbs a => [0xAE, loByte a, hiByte a]
  | .bbs2 z off => [0xAF, z, offsetByte off]
  | .bcs off => [0xB0, offsetByte off]
  | .ldaIzy z => [0xB1, z]
  | .ldaIzp z => [0xB2, z]
  | .nopB3 => [0xB3]
  | .ldyZpx z => [0xB4, z]
  | .ldaZpx z => [0xB5, z]
  | .ldxZpy z => [0xB6, z]
  | .smb3 z => [0xB7, z]
  | .clv => [0xB8]
  | .ldaAbsy a => [0xB9, loByte a, hiByte a]
  | .tsx => [0xBA]
  | .nopBB => [0xBB]
  | .ldyAbsx a => [0xBC, loByte a, hiByte a]
  | .ldaAbsx a => [0xBD, loByte a, hiByte a]
  | .ldxAbsy a => [0xBE, loByte a, hiByte a]
  | .bbs3 z off => [0xBF, z, offsetByte off]
  | .cpyImm v => [0xC0, v]
  | .cmpIzx z => [0xC1, z]
  | .nopC2 v => [0xC2, v]
  | .nopC3 => [0xC3]
  | .cpyZp z => [0xC4, z]
  | .cmpZp z => [0xC5, z]
  | .decZp z => [0xC6, z]
  | .smb4 z => [0xC7, z]
  | .iny => [0xC8]
  | .cmpImm v => [0xC9, v]
  | .dex => [0xCA]
  | .wai => [0xCB]
  | .cpyAbs a => [0xCC, loByte a, hiByte a]
  | .cmpAbs a => [0xCD, loByte a, hiByte a]
  | .decAbs a => [0xCE, loByte a, hiByte a]
  | .bbs4 z off => [0xCF, z, offsetByte off]
  | .bne off => [0xD0, offsetByte off]
  | .cmpIzy z => [0xD1, z]
  | .cmpIzp z => [0xD2, z]
  | .nopD3 => [0xD3]
  | .nopD4 z => [0xD4, z]
  | .cmpZpx z => [0xD5, z]
  | .decZpx z => [0xD6, z]
  | .smb5 z => [0xD7, z]
  | .cld => [0xD8]
  | .cmpAbsy a => [0xD9, loByte a, hiByte a]
  | .phx => [0xDA]
  | .stp => [0xDB]
  | .nopDC a => [0xDC, loByte a, hiByte a]
  | .cmpAbsx a => [0xDD, loByte a, hiByte a]
  | .decAbsx a => [0xDE, loByte a, hiByte a]
  | .bbs5 z off => [0xDF, z, offsetByte off]
  | .cpxImm v => [0xE0, v]
  | .sbcIzx z => [0xE1, z]
  | .nopE2 v => [0xE2, v]
  | .nopE3 => [0xE3]
  | .cpxZp z => [0xE4, z]
  | .sbcZp z => [0xE5, z]
  | .incZp z => [0xE6, z]
  | .smb6 z => [0xE7, z]
  | .inx => [0xE8]
  | .sbcImm v => [0xE9, v]
  | .nop => [0xEA]
  | .nopEB => [0xEB]
  | .cpxAbs a => [0xEC, loByte a, hiByte a]
  | .sbcAbs a => [0xED, loByte a, hiByte a]
  | .incAbs a => [0xEE, loByte a, hiByte a]
  | .bbs6 z off => [0xEF, z, offsetByte off]
  | .beq off => [0xF0, offsetByte off]
  | .sbcIzy z => [0xF1, z]
  | .sbcIzp z => [0xF2, z]
  | .nopF3 => [0xF3]
  | .nopF4 z => [0xF4, z]
  | .sbcZpx z => [0xF5, z]
  | .incZpx z => [0xF6, z]
  | .smb7 z => [0xF7, z]
  | .sed => [0xF8]
  | .sbcAbsy a => [0xF9, loByte a, hiByte a]
  | .plx => [0xFA]
  | .nopFB => [0xFB]
  | .nopFC a => [0xFC, loByte a, hiByte a]
  | .sbcAbsx a => [0xFD, loByte a, hiByte a]
  | .incAbsx a => [0xFE, loByte a, hiByte a]
  | .bbs7 z off => [0xFF, z, offsetByte off]

/-- The k-th byte of a word numbered from its least significant bit. -/
def wordByte (w k : Nat) : Byte := BitVec.ofNat 8 (w >>> (8 * k))

/-- The three bytes of a table word of `nbits` bits: the first byte is bits 7..0, and every bit above `nbits` is 0. -/
def tableBytes (nbits w : Nat) : List Byte :=
  let v := w % 2 ^ nbits
  [wordByte v 0, wordByte v 1, wordByte v 2]

/-- The instruction the decoder reads from a table word of `nbits` bits. -/
def decodeTableWord (nbits w : Nat) : Option Instr :=
  match decode (tableBytes nbits w) with
  | .ok (i, _) => some i
  | .error _ => none

end Sys2Proof
end

