-- ==== Sys2Proof/Machine/Fetch.lean ====
section
/-! DEFINITION. Which instruction a step runs (41_accessors R207) and where its bytes come from: each is read from the
bus as the event that fetches it reads it. Beside it, the placing of an instruction for `State.withFetchWord`. -/

namespace Sys2Proof.Machine

/-- The event, counted from the opcode's as 1, that fetches the third byte of an instruction: the fifth for the
bit-test branches (42_branches R241), the sixth for JSR (47_control R421), else the third. -/
def thirdByteEvent (op : Byte) : Nat :=
  if op.extractLsb' 0 4 = 0xF then 5 else if op = 0x20 then 6 else 3

/-- The instruction at PC (30_encoding R140). Instruction bytes lie at PC, PC + 1 and PC + 2 modulo 65536
(10_state R34). JSR reads its high byte itself, after its pushes (47_control R421). -/
def State.fetchedInstr (s : State) : Instr :=
  let op := s.byteAt 1 s.pc
  decodeBytes op (s.byteAt 2 (s.pc + 1)) (s.byteAt (thirdByteEvent op) (s.pc + 2))

/-- What the step does: a requested reset first (60_exceptions R461), then `stopped`, `pending` and `waiting` in the
order of 41_accessors R207. -/
def State.choice (s : State) : StepChoice :=
  if s.resetRequest then .reset
  else if s.stopped then .halt
  else if s.pending then .interrupt
  else if s.waiting then .wait
  else .instruction

/-! ### Placing an instruction -/

/-- An address shows a storage byte of its own that reads as stored: memory, the I/O adapter and the cartridge do,
the system-control registers, the repeated blitter registers and unmapped addresses do not. -/
def Bus.holdsCode (b : Bus) (a : Addr) : Bool :=
  match b.locate a with
  | some (.sysctl _) => false
  | some (.blit _) => false
  | some _ => true
  | none => false

/-- Store a byte behind an address, without the effects of a bus write. -/
def Bus.placeByte (b : Bus) (a : Addr) (v : Byte) : Bus :=
  match b.locate a with
  | some l => b.poke l v
  | none => b

/-- Store bytes at rising addresses. -/
def Bus.placeBytes (b : Bus) (a : Addr) : List Byte → Bus
  | [] => b
  | v :: rest => (b.placeByte a v).placeBytes (a + 1) rest

/-- The address an instruction of three bytes is placed at: PC if those addresses hold code, else 0x0200 in RAM. -/
def State.placeAddr (s : State) : Addr :=
  if s.bus.holdsCode s.pc && s.bus.holdsCode (s.pc + 1) && s.bus.holdsCode (s.pc + 2) then s.pc else 0x0200

/-- The state whose next step fetches an instruction from the given three bytes: the bytes stand at PC, no reset,
stop, interrupt or wait comes first, and no agent acts before the step (notes/assumptions/5.md). -/
def State.place (s : State) (bytes : List Byte) : State :=
  { s with
    pc := s.placeAddr
    bus := s.bus.placeBytes s.placeAddr bytes
    agents := []
    resetRequest := false
    stopped := false
    pending := false
    waiting := false }

end Sys2Proof.Machine
end

