-- ==== Sys2Proof/Machine/Step.lean ====
section
/-! DEFINITION. The step function (41_accessors R207): the agents act first (20_memory R100), then one dispatch step. -/

namespace Sys2Proof.Machine

/-- One dispatch step of a state in which the agents have acted (41_accessors R207). -/
def State.dispatch (s : State) : Host.Outcome State Fault Refusal :=
  match s.choice with
  | .reset => .next s.resetStep
  | .halt => .next s.haltStep
  | .interrupt => .next s.interruptEntry
  | .wait => .next s.waitStep
  | .instruction => exec s.fetchedInstr s

/-- One step of the machine. -/
def step (s : State) : Host.Outcome State Fault Refusal := s.betweenSteps.dispatch

/-- The state that runs the instruction of a table word next. -/
def State.withFetchWord (s : State) (nbits w : Nat) : State := s.place (tableBytes nbits w)

end Sys2Proof.Machine
end

