-- ==== Sys2Proof/Safety.lean ====
section
/-! DEFINITION. The terms claims are written in: what counts as a safe run (60_exceptions R451, R455), the part of the
state an instruction can write, the interrupt inputs as a step sees them, and the event list of each mode's fetch as
40_addressing R163 to R181 give it. -/

namespace Sys2Proof.Machine

/-! ### Outcomes -/

/-- A step outcome that goes on. -/
def Continues (r : Result) : Prop := ∃ t, r = .next t

/-- A run of `n` steps from a state ends in no fault and no refusal. -/
def SafeFor (n : Nat) (s : State) : Prop := Continues (Sys2Proof.core.run n s)

/-! ### What an instruction can write -/

/-- Everything but the clock, the interrupt latches and the observations: the registers, the flags, the run state and
the bus, with the parameters and schedules no instruction writes. -/
structure Arch where
  a : Byte
  x : Byte
  y : Byte
  sp : Byte
  pc : Addr
  p : Flags
  waiting : Bool
  stopped : Bool
  bus : Bus
  reserved : ReservedOpcodes
  opcode5C : Opcode5C
  agents : List (List AgentAction)
  resetRequest : Bool
deriving DecidableEq, Repr

def State.arch (s : State) : Arch :=
  { a := s.a, x := s.x, y := s.y, sp := s.sp, pc := s.pc, p := s.p, waiting := s.waiting, stopped := s.stopped,
    bus := s.bus, reserved := s.reserved, opcode5C := s.opcode5C, agents := s.agents,
    resetRequest := s.resetRequest }

/-- The effect of a store of `v` at `ea` on the physical bytes: the byte behind `ea` holds `v`, unless it is cartridge
or nothing is there (20_memory R90, R91); every other byte is unchanged. -/
def StoredAt (before after : Bus) (ea : Addr) (v : Byte) : Prop :=
  (∀ l, before.locate ea = some l → (∀ k, l ≠ .rom k) → after.peek l = v)
    ∧ (∀ l, before.locate ea ≠ some l → after.peek l = before.peek l)
    ∧ (∀ k, after.peek (.rom k) = before.peek (.rom k))

/-! ### The interrupt inputs -/

/-- `nmi_prev` after the `k`-th event from this state on (10_state R39). -/
def State.prevAfter (s : State) : Nat → Bool
  | 0 => s.nmiPrev
  | k + 1 => (s.linesAt (k + 1)).nmi

/-- `nmi_edge` after the `k`-th event from this state on, if no entry clears it (10_state R39). -/
def State.edgeAfter (s : State) : Nat → Bool
  | 0 => s.nmiEdge
  | k + 1 => s.edgeAfter k || ((s.linesAt (k + 1)).nmi && !s.prevAfter k)

/-- What EdgeCheck samples after the `k`-th event from this state on, with I equal to `i` then (41_accessors R213). -/
def State.sampleAfter (s : State) (i : Bool) (k : Nat) : Bool :=
  s.edgeAfter k || ((s.linesAt k).irq && !i)

/-! ### The events of a fetch, as lists -/

/-- The number of instruction bytes after the opcode that a mode's fetch reads (30_encoding R141; JSR reads its third
byte itself, 40_addressing R180). -/
def Mode.operandBytes (m : Mode) : Nat :=
  match m with
  | .imp | .acc | .stk | .nop1 => 0
  | .imm _ | .zp _ | .zpx _ | .zpy _ | .izx _ | .izy _ _ | .izp _ | .rel _ | .jsr _ | .brk _ => 1
  | .abs _ | .absx _ _ | .absy _ _ | .ind _ | .iax _ | .zpr _ _ => 2

/-- The Operand event of the `k`-th byte after the opcode; `s` is the state after the opcode event. -/
def State.operandEvent (s : State) (k : Nat) (v : Byte) : Event := .read .operand (s.pc + BitVec.ofNat 16 k) v

/-- The two Operand events of an absolute operand, low byte first. -/
def State.wordEvents (s : State) (a : Addr) : List Event :=
  [s.operandEvent 0 (loByte a), s.operandEvent 1 (hiByte a)]

/-- The two Pointer events of the pointer at zero-page address `p`, the first of them event `k` after the opcode. -/
def State.zpPointerTrace (s : State) (k : Nat) (p : Byte) : List Event :=
  [.read .pointer (zext16 p) (s.byteAt k (zext16 p)), .read .pointer (zext16 (p + 1)) (s.byteAt (k + 1) (zext16 (p + 1)))]

/-- The two Pointer events of the pointer at `p`, the first of them event `k` after the opcode. -/
def State.absPointerTrace (s : State) (k : Nat) (p : Addr) : List Event :=
  [.read .pointer p (s.byteAt k p), .read .pointer (p + 1) (s.byteAt (k + 1) (p + 1))]

/-- The index cycle, if it is spent (40_addressing R162). -/
def indexTrace (slow crossed : Bool) : List Event := if slow || crossed then [.idle] else []

/-- The events of a mode's fetch after the opcode event (40_addressing R163 to R181); `s` is the state after the
opcode event. -/
def Mode.fetchTrace (m : Mode) (s : State) : List Event :=
  match m with
  | .imp | .acc | .stk => [.idle]
  | .nop1 => []
  | .imm v => [s.operandEvent 0 v]
  | .zp z => [s.operandEvent 0 z]
  | .zpx z | .zpy z => [s.operandEvent 0 z, .idle]
  | .abs a => s.wordEvents a
  | .absx a slow | .absy a slow => s.wordEvents a ++ indexTrace slow (pageCrossed (m.base s) (m.address s))
  | .izx z => [s.operandEvent 0 z, .idle] ++ s.zpPointerTrace 3 (z + s.x)
  | .izy z slow =>
    [s.operandEvent 0 z] ++ s.zpPointerTrace 2 z ++ indexTrace slow (pageCrossed (m.base s) (m.address s))
  | .izp z => [s.operandEvent 0 z] ++ s.zpPointerTrace 2 z
  | .ind a => s.wordEvents a ++ [.idle] ++ s.absPointerTrace 4 a
  | .iax a => s.wordEvents a ++ [.idle] ++ s.absPointerTrace 4 (a + zext16 s.x)
  | .rel off => [s.operandEvent 0 (offsetByte off)]
  | .zpr z off =>
    [s.operandEvent 0 z, .read .data (zext16 z) (s.byteAt 2 (zext16 z)), .idle, s.operandEvent 1 (offsetByte off)]
  | .jsr lo => [s.operandEvent 0 lo]
  | .brk sig => [s.operandEvent 0 sig]

/-- The modes whose accessor is an effective address in memory for data (41_accessors R200). -/
def Mode.isMemory (m : Mode) : Bool :=
  match m with
  | .zp _ | .zpx _ | .zpy _ | .abs _ | .absx _ _ | .absy _ _ | .izx _ | .izy _ _ | .izp _ => true
  | .imp | .acc | .stk | .nop1 | .imm _ | .ind _ | .iax _ | .rel _ | .zpr _ _ | .jsr _ | .brk _ => false

/-- The byte at the effective address as the first event after the fetch reads it; `s` is the state after the opcode
event. -/
def Mode.memoryByte (m : Mode) (s : State) : Byte := s.byteAt ((m.fetchTrace s).length + 1) (m.address s)

/-- The operand byte of a read: the immediate byte, or the byte at the effective address (41_accessors R201). -/
def Mode.operandByte (m : Mode) (s : State) : Byte :=
  match m with
  | .imm v => v
  | m => m.memoryByte s

/-- The events of `ReadOp`: none for an immediate, one Read for memory (41_accessors R201). -/
def Mode.readTrace (m : Mode) (s : State) : List Event :=
  match m with
  | .imm _ => []
  | m => [.read .data (m.address s) (m.memoryByte s)]

/-- PC after an instruction's bytes. -/
def Mode.nextPc (m : Mode) (s : State) : Addr := s.pc + BitVec.ofNat 16 (1 + m.operandBytes)

/-! ### The events of an operation, as lists -/

/-- The three locked events of a read-modify-write on memory: read, rewrite of the unmodified value, final write
(41_accessors R203). -/
def Mode.rmwTrace (m : Mode) (s : State) (r : Byte) : List Event :=
  [.read .locked (m.address s) (m.memoryByte s), .write .locked (m.address s) (m.memoryByte s),
    .write .locked (m.address s) r]

/-- The events a branch adds after its fetch (41_accessors R204); `pc` is the address of the next instruction. -/
def branchTrace (pc target : Addr) (taken : Bool) : List Event :=
  if taken then if pageCrossed pc target then [.idle, .idle] else [.idle] else []

/-! ### Reports -/

/-- The report of an event, if any: reads and writes are classified by address alone (20_memory R81, R90 to R92). -/
def eventReports (b : Bus) : Event → List Report
  | .read _ a _ => b.readReport a
  | .write _ a v => b.writeReport a v
  | .idle => []

/-- The reports of an event list, in event order (60_exceptions R452). -/
def reportsOf (b : Bus) (evs : List Event) : List Report := evs.flatMap (eventReports b)

/-! ### An instruction that has run -/

/-- The step of opcode `op` and mode `m` took `s` to `t`: its events are the opcode, the mode's fetch and then `rest`,
one cycle each (41_accessors R208, R211), each reporting by its address (20_memory R92), and what it has written is
`after`. -/
def Ran (op : Byte) (m : Mode) (s t : State) (rest : List Event) (after : Arch) : Prop :=
  t.trace = .read .operand s.pc op :: (m.fetchTrace (s.opcode op) ++ rest)
    ∧ t.cycles = s.cycles + t.trace.length
    ∧ t.reports = s.reports ++ reportsOf s.bus t.trace
    ∧ t.outcome = .executed op
    ∧ t.arch = after

/-- The pending latch after the standard sample at event max(T - 1, 1), at which I is still as at the start of the step
(41_accessors R209, R213, R214). -/
def SampledStandard (s t : State) : Prop :=
  t.pending = (s.pending || s.sampleAfter s.p.i (max (t.trace.length - 1) 1))

/-- The instruction `i`, of opcode `op` and mode `m`, answers a next state: it makes the events `rest` after its fetch,
writes exactly `after` and samples at the standard point. -/
def Completes (i : Instr) (op : Byte) (m : Mode) (s : State) (rest : List Event) (after : Arch) : Prop :=
  ∃ t, exec i s = .next t ∧ Ran op m s t rest after ∧ SampledStandard s t

/-- The reserved opcode `op` at PC is refused: the step has made its opcode event and no other, PC and the cycle count have
moved on by one, nothing is sampled and nothing else is written (41_accessors R219). -/
def Refuses (r : Result) (op : Byte) (s : State) : Prop :=
  ∃ u, r = .refused (.reservedOpcode op s.pc u)
    ∧ u.trace = [.read .operand s.pc op]
    ∧ u.cycles = s.cycles + 1
    ∧ u.reports = s.reports ++ reportsOf s.bus u.trace
    ∧ u.outcome = .refused op
    ∧ u.pending = s.pending
    ∧ u.nmiEdge = s.edgeAfter 1 ∧ u.nmiPrev = s.prevAfter 1
    ∧ u.arch = { s.arch with pc := s.pc + 1 }

/-- The pending latch after a branch of `b` not-taken events: the standard sample, and the early one when it is taken
across a page (41_accessors R215). -/
def State.branchPending (s : State) (b : Nat) (pc target : Addr) (taken : Bool) : Bool :=
  s.pending || s.sampleAfter s.p.i (b - 1)
    || (taken && pageCrossed pc target && s.sampleAfter s.p.i (b + 1))

/-- A branch of `b` not-taken events answers a next state: PC is the target if it is taken, else the next instruction,
and nothing else is written. -/
def BranchCompletes (i : Instr) (op : Byte) (m : Mode) (s : State) (b : Nat) (target : Addr) (taken : Bool) : Prop :=
  ∃ t, exec i s = .next t
    ∧ Ran op m s t (branchTrace (m.nextPc s) target taken)
        { s.arch with pc := if taken then target else m.nextPc s }
    ∧ t.pending = s.branchPending b (m.nextPc s) target taken

end Sys2Proof.Machine
end

