-- ==== Sys2Proof/Certificates/Slice0/Forms.lean ====
section
/-! DEFINITION. The opcode table by instruction, for the statements: each form of an instruction with its opcode and its
addressing mode (30_encoding R148, 40_addressing R162), and the cycle counts of 70_reset R520. Written from the spec, not
from the meanings. -/

namespace Sys2Proof.Claims

open Sys2Proof.Machine

/-- The forms of LDA (43_load_store R280). -/
def ldaForm (i : Instr) : Option (Byte × Mode) :=
  match i with
  | .ldaIzx z => some (0xA1, .izx z)
  | .ldaZp z => some (0xA5, .zp z)
  | .ldaImm v => some (0xA9, .imm v)
  | .ldaAbs a => some (0xAD, .abs a)
  | .ldaIzy z => some (0xB1, .izy z false)
  | .ldaIzp z => some (0xB2, .izp z)
  | .ldaZpx z => some (0xB5, .zpx z)
  | .ldaAbsy a => some (0xB9, .absy a false)
  | .ldaAbsx a => some (0xBD, .absx a false)
  | _ => none

/-- The forms of LDX (43_load_store R281). -/
def ldxForm (i : Instr) : Option (Byte × Mode) :=
  match i with
  | .ldxImm v => some (0xA2, .imm v)
  | .ldxZp z => some (0xA6, .zp z)
  | .ldxAbs a => some (0xAE, .abs a)
  | .ldxZpy z => some (0xB6, .zpy z)
  | .ldxAbsy a => some (0xBE, .absy a false)
  | _ => none

/-- The forms of LDY (43_load_store R282). -/
def ldyForm (i : Instr) : Option (Byte × Mode) :=
  match i with
  | .ldyImm v => some (0xA0, .imm v)
  | .ldyZp z => some (0xA4, .zp z)
  | .ldyAbs a => some (0xAC, .abs a)
  | .ldyZpx z => some (0xB4, .zpx z)
  | .ldyAbsx a => some (0xBC, .absx a false)
  | _ => none

/-- The forms of STA (43_load_store R283). -/
def staForm (i : Instr) : Option (Byte × Mode) :=
  match i with
  | .staIzx z => some (0x81, .izx z)
  | .staZp z => some (0x85, .zp z)
  | .staAbs a => some (0x8D, .abs a)
  | .staIzy z => some (0x91, .izy z true)
  | .staIzp z => some (0x92, .izp z)
  | .staZpx z => some (0x95, .zpx z)
  | .staAbsy a => some (0x99, .absy a true)
  | .staAbsx a => some (0x9D, .absx a true)
  | _ => none

/-- The forms of STX (43_load_store R284). -/
def stxForm (i : Instr) : Option (Byte × Mode) :=
  match i with
  | .stxZp z => some (0x86, .zp z)
  | .stxAbs a => some (0x8E, .abs a)
  | .stxZpy z => some (0x96, .zpy z)
  | _ => none

/-- The forms of STY (43_load_store R285). -/
def styForm (i : Instr) : Option (Byte × Mode) :=
  match i with
  | .styZp z => some (0x84, .zp z)
  | .styAbs a => some (0x8C, .abs a)
  | .styZpx z => some (0x94, .zpx z)
  | _ => none

/-- The forms of STZ (43_load_store R286). -/
def stzForm (i : Instr) : Option (Byte × Mode) :=
  match i with
  | .stzZp z => some (0x64, .zp z)
  | .stzZpx z => some (0x74, .zpx z)
  | .stzAbs a => some (0x9C, .abs a)
  | .stzAbsx a => some (0x9E, .absx a true)
  | _ => none

/-- The forms of ADC (44_alu R306). -/
def adcForm (i : Instr) : Option (Byte × Mode) :=
  match i with
  | .adcIzx z => some (0x61, .izx z)
  | .adcZp z => some (0x65, .zp z)
  | .adcImm v => some (0x69, .imm v)
  | .adcAbs a => some (0x6D, .abs a)
  | .adcIzy z => some (0x71, .izy z false)
  | .adcIzp z => some (0x72, .izp z)
  | .adcZpx z => some (0x75, .zpx z)
  | .adcAbsy a => some (0x79, .absy a false)
  | .adcAbsx a => some (0x7D, .absx a false)
  | _ => none

/-- The forms of SBC (44_alu R307). -/
def sbcForm (i : Instr) : Option (Byte × Mode) :=
  match i with
  | .sbcIzx z => some (0xE1, .izx z)
  | .sbcZp z => some (0xE5, .zp z)
  | .sbcImm v => some (0xE9, .imm v)
  | .sbcAbs a => some (0xED, .abs a)
  | .sbcIzy z => some (0xF1, .izy z false)
  | .sbcIzp z => some (0xF2, .izp z)
  | .sbcZpx z => some (0xF5, .zpx z)
  | .sbcAbsy a => some (0xF9, .absy a false)
  | .sbcAbsx a => some (0xFD, .absx a false)
  | _ => none

/-- The forms of AND (44_alu R308). -/
def andForm (i : Instr) : Option (Byte × Mode) :=
  match i with
  | .andIzx z => some (0x21, .izx z)
  | .andZp z => some (0x25, .zp z)
  | .andImm v => some (0x29, .imm v)
  | .andAbs a => some (0x2D, .abs a)
  | .andIzy z => some (0x31, .izy z false)
  | .andIzp z => some (0x32, .izp z)
  | .andZpx z => some (0x35, .zpx z)
  | .andAbsy a => some (0x39, .absy a false)
  | .andAbsx a => some (0x3D, .absx a false)
  | _ => none

/-- The forms of ORA (44_alu R309). -/
def oraForm (i : Instr) : Option (Byte × Mode) :=
  match i with
  | .oraIzx z => some (0x01, .izx z)
  | .oraZp z => some (0x05, .zp z)
  | .oraImm v => some (0x09, .imm v)
  | .oraAbs a => some (0x0D, .abs a)
  | .oraIzy z => some (0x11, .izy z false)
  | .oraIzp z => some (0x12, .izp z)
  | .oraZpx z => some (0x15, .zpx z)
  | .oraAbsy a => some (0x19, .absy a false)
  | .oraAbsx a => some (0x1D, .absx a false)
  | _ => none

/-- The forms of EOR (44_alu R310). -/
def eorForm (i : Instr) : Option (Byte × Mode) :=
  match i with
  | .eorIzx z => some (0x41, .izx z)
  | .eorZp z => some (0x45, .zp z)
  | .eorImm v => some (0x49, .imm v)
  | .eorAbs a => some (0x4D, .abs a)
  | .eorIzy z => some (0x51, .izy z false)
  | .eorIzp z => some (0x52, .izp z)
  | .eorZpx z => some (0x55, .zpx z)
  | .eorAbsy a => some (0x59, .absy a false)
  | .eorAbsx a => some (0x5D, .absx a false)
  | _ => none

/-- The forms of CMP (44_alu R311). -/
def cmpForm (i : Instr) : Option (Byte × Mode) :=
  match i with
  | .cmpIzx z => some (0xC1, .izx z)
  | .cmpZp z => some (0xC5, .zp z)
  | .cmpImm v => some (0xC9, .imm v)
  | .cmpAbs a => some (0xCD, .abs a)
  | .cmpIzy z => some (0xD1, .izy z false)
  | .cmpIzp z => some (0xD2, .izp z)
  | .cmpZpx z => some (0xD5, .zpx z)
  | .cmpAbsy a => some (0xD9, .absy a false)
  | .cmpAbsx a => some (0xDD, .absx a false)
  | _ => none

/-- The forms of CPX (44_alu R312). -/
def cpxForm (i : Instr) : Option (Byte × Mode) :=
  match i with
  | .cpxImm v => some (0xE0, .imm v)
  | .cpxZp z => some (0xE4, .zp z)
  | .cpxAbs a => some (0xEC, .abs a)
  | _ => none

/-- The forms of CPY (44_alu R313). -/
def cpyForm (i : Instr) : Option (Byte × Mode) :=
  match i with
  | .cpyImm v => some (0xC0, .imm v)
  | .cpyZp z => some (0xC4, .zp z)
  | .cpyAbs a => some (0xCC, .abs a)
  | _ => none

/-- The forms of BIT (44_alu R314). -/
def bitForm (i : Instr) : Option (Byte × Mode) :=
  match i with
  | .bitZp z => some (0x24, .zp z)
  | .bitAbs a => some (0x2C, .abs a)
  | .bitZpx z => some (0x34, .zpx z)
  | .bitAbsx a => some (0x3C, .absx a false)
  | .bitImm v => some (0x89, .imm v)
  | _ => none

/-- The forms of ASL on memory (45_rmw_bits R331). -/
def aslForm (i : Instr) : Option (Byte × Mode) :=
  match i with
  | .aslZp z => some (0x06, .zp z)
  | .aslAbs a => some (0x0E, .abs a)
  | .aslZpx z => some (0x16, .zpx z)
  | .aslAbsx a => some (0x1E, .absx a false)
  | _ => none

/-- The forms of LSR on memory (45_rmw_bits R332). -/
def lsrForm (i : Instr) : Option (Byte × Mode) :=
  match i with
  | .lsrZp z => some (0x46, .zp z)
  | .lsrAbs a => some (0x4E, .abs a)
  | .lsrZpx z => some (0x56, .zpx z)
  | .lsrAbsx a => some (0x5E, .absx a false)
  | _ => none

/-- The forms of ROL on memory (45_rmw_bits R333). -/
def rolForm (i : Instr) : Option (Byte × Mode) :=
  match i with
  | .rolZp z => some (0x26, .zp z)
  | .rolAbs a => some (0x2E, .abs a)
  | .rolZpx z => some (0x36, .zpx z)
  | .rolAbsx a => some (0x3E, .absx a false)
  | _ => none

/-- The forms of ROR on memory (45_rmw_bits R334). -/
def rorForm (i : Instr) : Option (Byte × Mode) :=
  match i with
  | .rorZp z => some (0x66, .zp z)
  | .rorAbs a => some (0x6E, .abs a)
  | .rorZpx z => some (0x76, .zpx z)
  | .rorAbsx a => some (0x7E, .absx a false)
  | _ => none

/-- The forms of INC on memory (45_rmw_bits R335). -/
def incForm (i : Instr) : Option (Byte × Mode) :=
  match i with
  | .incZp z => some (0xE6, .zp z)
  | .incAbs a => some (0xEE, .abs a)
  | .incZpx z => some (0xF6, .zpx z)
  | .incAbsx a => some (0xFE, .absx a true)
  | _ => none

/-- The forms of DEC on memory (45_rmw_bits R336). -/
def decForm (i : Instr) : Option (Byte × Mode) :=
  match i with
  | .decZp z => some (0xC6, .zp z)
  | .decAbs a => some (0xCE, .abs a)
  | .decZpx z => some (0xD6, .zpx z)
  | .decAbsx a => some (0xDE, .absx a true)
  | _ => none

/-- The forms of TSB (45_rmw_bits R341). -/
def tsbForm (i : Instr) : Option (Byte × Mode) :=
  match i with
  | .tsbZp z => some (0x04, .zp z)
  | .tsbAbs a => some (0x0C, .abs a)
  | _ => none

/-- The forms of TRB (45_rmw_bits R342). -/
def trbForm (i : Instr) : Option (Byte × Mode) :=
  match i with
  | .trbZp z => some (0x14, .zp z)
  | .trbAbs a => some (0x1C, .abs a)
  | _ => none

/-- The eight RMBn, with their bit number (45_rmw_bits R343, R344 to R351). -/
def rmbForm (i : Instr) : Option (Byte × Mode × Nat) :=
  match i with
  | .rmb0 z => some (0x07, .zp z, 0)
  | .rmb1 z => some (0x17, .zp z, 1)
  | .rmb2 z => some (0x27, .zp z, 2)
  | .rmb3 z => some (0x37, .zp z, 3)
  | .rmb4 z => some (0x47, .zp z, 4)
  | .rmb5 z => some (0x57, .zp z, 5)
  | .rmb6 z => some (0x67, .zp z, 6)
  | .rmb7 z => some (0x77, .zp z, 7)
  | _ => none

/-- The eight SMBn, with their bit number (45_rmw_bits R352, R353 to R360). -/
def smbForm (i : Instr) : Option (Byte × Mode × Nat) :=
  match i with
  | .smb0 z => some (0x87, .zp z, 0)
  | .smb1 z => some (0x97, .zp z, 1)
  | .smb2 z => some (0xA7, .zp z, 2)
  | .smb3 z => some (0xB7, .zp z, 3)
  | .smb4 z => some (0xC7, .zp z, 4)
  | .smb5 z => some (0xD7, .zp z, 5)
  | .smb6 z => some (0xE7, .zp z, 6)
  | .smb7 z => some (0xF7, .zp z, 7)
  | _ => none

/-- The nine relative branches: opcode, offset and condition (42_branches R242 to R250). -/
def branchForm (i : Instr) : Option (Byte × Int × (Flags → Bool)) :=
  match i with
  | .bpl off => some (0x10, off, fun p => decide (p.n = false))
  | .bmi off => some (0x30, off, fun p => decide (p.n = true))
  | .bvc off => some (0x50, off, fun p => decide (p.v = false))
  | .bvs off => some (0x70, off, fun p => decide (p.v = true))
  | .bra off => some (0x80, off, fun _ => true)
  | .bcc off => some (0x90, off, fun p => decide (p.c = false))
  | .bcs off => some (0xB0, off, fun p => decide (p.c = true))
  | .bne off => some (0xD0, off, fun p => decide (p.z = false))
  | .beq off => some (0xF0, off, fun p => decide (p.z = true))
  | _ => none

/-- The sixteen bit-test branches: opcode, zero-page address, offset, bit number and the bit value that branches
(42_branches R251 to R266). -/
def bitBranchForm (i : Instr) : Option (Byte × Byte × Int × Nat × Bool) :=
  match i with
  | .bbr0 z off => some (0x0F, z, off, 0, false)
  | .bbr1 z off => some (0x1F, z, off, 1, false)
  | .bbr2 z off => some (0x2F, z, off, 2, false)
  | .bbr3 z off => some (0x3F, z, off, 3, false)
  | .bbr4 z off => some (0x4F, z, off, 4, false)
  | .bbr5 z off => some (0x5F, z, off, 5, false)
  | .bbr6 z off => some (0x6F, z, off, 6, false)
  | .bbr7 z off => some (0x7F, z, off, 7, false)
  | .bbs0 z off => some (0x8F, z, off, 0, true)
  | .bbs1 z off => some (0x9F, z, off, 1, true)
  | .bbs2 z off => some (0xAF, z, off, 2, true)
  | .bbs3 z off => some (0xBF, z, off, 3, true)
  | .bbs4 z off => some (0xCF, z, off, 4, true)
  | .bbs5 z off => some (0xDF, z, off, 5, true)
  | .bbs6 z off => some (0xEF, z, off, 6, true)
  | .bbs7 z off => some (0xFF, z, off, 7, true)
  | _ => none

/-- The reserved opcodes that make one operand read at most: opcode and mode (47_control R428 to R432). -/
def reservedForm (i : Instr) : Option (Byte × Mode) :=
  match i with
  | .nop02 v => some (0x02, .imm v)
  | .nop03 => some (0x03, .nop1)
  | .nop0B => some (0x0B, .nop1)
  | .nop13 => some (0x13, .nop1)
  | .nop1B => some (0x1B, .nop1)
  | .nop22 v => some (0x22, .imm v)
  | .nop23 => some (0x23, .nop1)
  | .nop2B => some (0x2B, .nop1)
  | .nop33 => some (0x33, .nop1)
  | .nop3B => some (0x3B, .nop1)
  | .nop42 v => some (0x42, .imm v)
  | .nop43 => some (0x43, .nop1)
  | .nop44 z => some (0x44, .zp z)
  | .nop4B => some (0x4B, .nop1)
  | .nop53 => some (0x53, .nop1)
  | .nop54 z => some (0x54, .zpx z)
  | .nop5B => some (0x5B, .nop1)
  | .nop62 v => some (0x62, .imm v)
  | .nop63 => some (0x63, .nop1)
  | .nop6B => some (0x6B, .nop1)
  | .nop73 => some (0x73, .nop1)
  | .nop7B => some (0x7B, .nop1)
  | .nop82 v => some (0x82, .imm v)
  | .nop83 => some (0x83, .nop1)
  | .nop8B => some (0x8B, .nop1)
  | .nop93 => some (0x93, .nop1)
  | .nop9B => some (0x9B, .nop1)
  | .nopA3 => some (0xA3, .nop1)
  | .nopAB => some (0xAB, .nop1)
  | .nopB3 => some (0xB3, .nop1)
  | .nopBB => some (0xBB, .nop1)
  | .nopC2 v => some (0xC2, .imm v)
  | .nopC3 => some (0xC3, .nop1)
  | .nopD3 => some (0xD3, .nop1)
  | .nopD4 z => some (0xD4, .zpx z)
  | .nopDC a => some (0xDC, .abs a)
  | .nopE2 v => some (0xE2, .imm v)
  | .nopE3 => some (0xE3, .nop1)
  | .nopEB => some (0xEB, .nop1)
  | .nopF3 => some (0xF3, .nop1)
  | .nopF4 z => some (0xF4, .zpx z)
  | .nopFB => some (0xFB, .nop1)
  | .nopFC a => some (0xFC, .abs a)
  | _ => none

/-- The reserved opcodes (30_encoding R149). -/
def reservedOpcodes : List Byte :=
  [0x02, 0x03, 0x0B, 0x13, 0x1B, 0x22, 0x23, 0x2B, 0x33, 0x3B, 0x42, 0x43, 0x44, 0x4B, 0x53, 0x54, 0x5B, 0x5C, 0x62, 0x63, 0x6B, 0x73,
   0x7B, 0x82, 0x83, 0x8B, 0x93, 0x9B, 0xA3, 0xAB, 0xB3, 0xBB, 0xC2, 0xC3, 0xD3, 0xD4, 0xDC, 0xE2, 0xE3, 0xEB, 0xF3, 0xF4, 0xFB, 0xFC]

/-- The forms whose index cycle is spent only on a page crossing, the fast variant (40_addressing R162). -/
def fastForm (i : Instr) : Option Mode :=
  match i with
  | .oraIzy z => some (.izy z false)
  | .oraAbsy a => some (.absy a false)
  | .oraAbsx a => some (.absx a false)
  | .aslAbsx a => some (.absx a false)
  | .andIzy z => some (.izy z false)
  | .andAbsy a => some (.absy a false)
  | .bitAbsx a => some (.absx a false)
  | .andAbsx a => some (.absx a false)
  | .rolAbsx a => some (.absx a false)
  | .eorIzy z => some (.izy z false)
  | .eorAbsy a => some (.absy a false)
  | .eorAbsx a => some (.absx a false)
  | .lsrAbsx a => some (.absx a false)
  | .adcIzy z => some (.izy z false)
  | .adcAbsy a => some (.absy a false)
  | .adcAbsx a => some (.absx a false)
  | .rorAbsx a => some (.absx a false)
  | .ldaIzy z => some (.izy z false)
  | .ldaAbsy a => some (.absy a false)
  | .ldyAbsx a => some (.absx a false)
  | .ldaAbsx a => some (.absx a false)
  | .ldxAbsy a => some (.absy a false)
  | .cmpIzy z => some (.izy z false)
  | .cmpAbsy a => some (.absy a false)
  | .cmpAbsx a => some (.absx a false)
  | .sbcIzy z => some (.izy z false)
  | .sbcAbsy a => some (.absy a false)
  | .sbcAbsx a => some (.absx a false)
  | _ => none

/-- The base cycle counts (70_reset R520): row opcode[7:4], column opcode[3:0]. -/
def baseCycleRows : List (List Nat) := [
  [7, 6, 2, 1, 5, 3, 5, 5, 3, 2, 2, 1, 6, 4, 6, 5],
  [2, 5, 5, 1, 5, 4, 6, 5, 2, 4, 2, 1, 6, 4, 6, 5],
  [6, 6, 2, 1, 3, 3, 5, 5, 4, 2, 2, 1, 4, 4, 6, 5],
  [2, 5, 5, 1, 4, 4, 6, 5, 2, 4, 2, 1, 4, 4, 6, 5],
  [6, 6, 2, 1, 3, 3, 5, 5, 3, 2, 2, 1, 3, 4, 6, 5],
  [2, 5, 5, 1, 4, 4, 6, 5, 2, 4, 3, 1, 8, 4, 6, 5],
  [6, 6, 2, 1, 3, 3, 5, 5, 4, 2, 2, 1, 6, 4, 6, 5],
  [2, 5, 5, 1, 4, 4, 6, 5, 2, 4, 4, 1, 6, 4, 6, 5],
  [3, 6, 2, 1, 3, 3, 3, 5, 2, 2, 2, 1, 4, 4, 4, 5],
  [2, 6, 5, 1, 4, 4, 4, 5, 2, 5, 2, 1, 4, 5, 5, 5],
  [2, 6, 2, 1, 3, 3, 3, 5, 2, 2, 2, 1, 4, 4, 4, 5],
  [2, 5, 5, 1, 4, 4, 4, 5, 2, 4, 2, 1, 4, 4, 4, 5],
  [2, 6, 2, 1, 3, 3, 5, 5, 2, 2, 2, 3, 4, 4, 6, 5],
  [2, 5, 5, 1, 4, 4, 6, 5, 2, 4, 3, 3, 4, 4, 7, 5],
  [2, 6, 2, 1, 3, 3, 5, 5, 2, 2, 2, 1, 4, 4, 6, 5],
  [2, 5, 5, 1, 4, 4, 6, 5, 2, 4, 4, 1, 4, 4, 7, 5]]

/-- The base cycle count of an opcode. -/
def baseCycles (op : Byte) : Nat := (baseCycleRows.getD (op.toNat / 16) []).getD (op.toNat % 16) 0

/-- The opcode byte of an instruction (30_encoding R140). -/
def opcodeOf (i : Instr) : Byte := (encode i).headD 0

/-- One more cycle for a page crossing in the fast variant (40_addressing R161, R162). -/
def crossCycle (i : Instr) (s : State) : Nat :=
  match fastForm i with
  | some m => bitNat (pageCrossed (m.base (s.opcode (opcodeOf i))) (m.address (s.opcode (opcodeOf i))))
  | none => 0

/-- One more cycle for ADC and SBC in decimal mode (44_alu R306, R307). -/
def decimalCycle (i : Instr) (s : State) : Nat := bitNat (((adcForm i).isSome || (sbcForm i).isSome) && s.p.d)

/-- The cycles of a taken branch beyond its base count, which for BRA holds the taken cycle already. -/
def takenCycles (pc target : Addr) (taken bra : Bool) : Nat :=
  if taken then bitNat (!bra) + bitNat (pageCrossed pc target) else 0

/-- The branch adders (42_branches R240, R241). -/
def branchCycles (i : Instr) (s : State) : Nat :=
  match branchForm i, bitBranchForm i with
  | some (op, off, cond), _ => takenCycles (s.pc + 2) (s.pc + 2 + sext16 off) (cond s.p) (op == 0x80)
  | none, some (_, z, off, n, value) =>
    takenCycles (s.pc + 3) (s.pc + 3 + sext16 off) ((s.byteAt 3 (zext16 z)).getLsbD n == value) false
  | none, none => 0

/-- T of 70_reset R520: the cycles of an instruction step. -/
def expectedCycles (i : Instr) (s : State) : Nat :=
  baseCycles (opcodeOf i) + crossCycle i s + branchCycles i s + decimalCycle i s

/-- The `n`-th of RMB0 to RMB7. -/
def rmbAt (n : Fin 8) (z : Byte) : Instr :=
  match n with
  | 0 => .rmb0 z
  | 1 => .rmb1 z
  | 2 => .rmb2 z
  | 3 => .rmb3 z
  | 4 => .rmb4 z
  | 5 => .rmb5 z
  | 6 => .rmb6 z
  | 7 => .rmb7 z

/-- The `n`-th of SMB0 to SMB7. -/
def smbAt (n : Fin 8) (z : Byte) : Instr :=
  match n with
  | 0 => .smb0 z
  | 1 => .smb1 z
  | 2 => .smb2 z
  | 3 => .smb3 z
  | 4 => .smb4 z
  | 5 => .smb5 z
  | 6 => .smb6 z
  | 7 => .smb7 z

/-- The `n`-th of BBR0 to BBR7. -/
def bbrAt (n : Fin 8) (z : Byte) (off : Int) : Instr :=
  match n with
  | 0 => .bbr0 z off
  | 1 => .bbr1 z off
  | 2 => .bbr2 z off
  | 3 => .bbr3 z off
  | 4 => .bbr4 z off
  | 5 => .bbr5 z off
  | 6 => .bbr6 z off
  | 7 => .bbr7 z off

/-- The `n`-th of BBS0 to BBS7. -/
def bbsAt (n : Fin 8) (z : Byte) (off : Int) : Instr :=
  match n with
  | 0 => .bbs0 z off
  | 1 => .bbs1 z off
  | 2 => .bbs2 z off
  | 3 => .bbs3 z off
  | 4 => .bbs4 z off
  | 5 => .bbs5 z off
  | 6 => .bbs6 z off
  | 7 => .bbs7 z off

end Sys2Proof.Claims
end

