-- ==== Sys2Proof/Certificates/Slice0/Obligations.lean ====
section
/-! DEFINITION. The statements for the provers. `Completes`, `BranchCompletes`, `Ran`, `StoredAt` and the event lists they
use stand in Sys2Proof/Safety.lean; the forms of each instruction stand in Forms.lean. Numbered events count the opcode
event as event 1; `s.byteAt k a` is the byte a read of `a` returns at event `k` of a step from `s`, before any write;
`s.opcode op` is the state after the opcode event. -/

open Sys2Proof Sys2Proof.Machine Sys2Proof.Claims

/-! ### Terms of these statements -/

namespace Sys2Proof.Claims

/-- What an instruction writes that changes PC only. -/
def movedPast (m : Mode) (s : State) : Arch := { s.arch with pc := m.nextPc s }

/-- What a push of `v` by an instruction writes (46_transfer R380). -/
def pushed (m : Mode) (s : State) (v : Byte) : Arch :=
  { s.arch with pc := m.nextPc s, sp := s.sp - 1, bus := s.bus.write (stackAddr s.sp) v }

/-- A push instruction of opcode `op` that pushes `v`: one idle cycle and one write (46_transfer R380). -/
def PushCompletes (i : Instr) (op : Byte) (s : State) (v : Byte) : Prop :=
  Completes i op .stk s [.write .data (stackAddr s.sp) v] (pushed .stk s v)
    ∧ StoredAt s.bus (s.bus.write (stackAddr s.sp) v) (stackAddr s.sp) v

/-- The byte a pull reads at event 4 (46_transfer R380). -/
def pulledAt4 (s : State) : Byte := s.byteAt 4 (stackAddr (s.sp + 1))

/-- The events of a pull after its fetch (46_transfer R380). -/
def pullTrace (s : State) : List Event := [.idle, .read .data (stackAddr (s.sp + 1)) (pulledAt4 s)]

/-- A store of `v` through mode `m`: one Write event, one stored byte (43_load_store R287). -/
def StoreCompletes (i : Instr) (op : Byte) (m : Mode) (s : State) (v : Byte) : Prop :=
  let ea := m.address (s.opcode op)
  Completes i op m s [.write .data ea v] { s.arch with pc := m.nextPc s, bus := s.bus.write ea v }
    ∧ StoredAt s.bus (s.bus.write ea v) ea v

/-- A read-modify-write of memory by `f`: three locked events, both writes through the bus, the flags of `f`
(41_accessors R203, 45_rmw_bits R330). -/
def RmwCompletes (i : Instr) (op : Byte) (m : Mode) (s : State) (f : Byte → Flags → Byte × Flags) : Prop :=
  let s1 := s.opcode op
  let ea := m.address s1
  let v := m.memoryByte s1
  let r := f v s.p
  Completes i op m s [.read .locked ea v, .write .locked ea v, .write .locked ea r.1]
      { s.arch with pc := m.nextPc s, bus := (s.bus.write ea v).write ea r.1, p := r.2 }
    ∧ StoredAt s.bus ((s.bus.write ea v).write ea r.1) ea r.1

/-- A read-modify-write of A by `f`: no event after the fetch (41_accessors R203). -/
def AccCompletes (i : Instr) (op : Byte) (s : State) (f : Byte → Flags → Byte × Flags) : Prop :=
  Completes i op .acc s [] { s.arch with pc := s.pc + 1, a := (f s.a s.p).1, p := (f s.a s.p).2 }

/-- An instruction of mode imp that writes `after` and makes no event after its fetch. -/
def ImpCompletes (i : Instr) (op : Byte) (s : State) (after : Arch) : Prop :=
  Completes i op .imp s [] { after with pc := s.pc + 1 }

/-- The bus after the three pushes of an exception entry: `ret` and the status byte (60_exceptions R459). -/
def frameBus (b : Bus) (sp : Byte) (ret : Addr) (status : Byte) : Bus :=
  ((b.write (stackAddr sp) (hiByte ret)).write (stackAddr (sp - 1)) (loByte ret)).write (stackAddr (sp - 2)) status

/-- The three Write events of an exception entry. -/
def frameTrace (sp : Byte) (ret : Addr) (status : Byte) : List Event :=
  [.write .data (stackAddr sp) (hiByte ret), .write .data (stackAddr (sp - 1)) (loByte ret),
    .write .data (stackAddr (sp - 2)) status]

/-- No physical byte but those behind the three pushed addresses changes. -/
def FrameOnly (before after : Bus) (sp : Byte) : Prop :=
  ∀ l, before.locate (stackAddr sp) ≠ some l → before.locate (stackAddr (sp - 1)) ≠ some l →
    before.locate (stackAddr (sp - 2)) ≠ some l → after.peek l = before.peek l

/-- The value of a byte of two decimal digits. -/
def bcd (b : Byte) : Nat := 10 * (b.toNat / 16) + b.toNat % 16

/-- Both digits are decimal. -/
def isBcd (b : Byte) : Prop := b.toNat / 16 ≤ 9 ∧ b.toNat % 16 ≤ 9

/-- The bytes 70_reset R504 writes to the output register to select bank `n`: two for each bit, most significant first,
then the latch. -/
def selectWrites (n : BitVec 7) : List Byte :=
  ([6, 5, 4, 3, 2, 1, 0].flatMap fun i =>
    let d : Byte := (n.extractLsb' i 1).setWidth 8
    [d <<< 1, (d <<< 1) ||| 0x01]) ++ [0x00, 0x04]

end Sys2Proof.Claims

/-! ### Encoding -/

/-- 30_encoding R140, R141, R145: decoding the bytes of a well-formed instruction gives it back, with the bytes that
follow it, for every instruction and every operand. -/
def Obligations.DecodeInvertsEncode : Prop :=
  ∀ (i : Instr) (rest : List Byte), i.wellFormed = true → decode (encode i ++ rest) = .ok (i, rest)

/-- 30_encoding R154: every opcode byte with any bytes after it decodes to a well-formed instruction, whose encoding is
that opcode and its operand bytes: no bit is dropped and no two byte sequences mean one instruction. -/
def Obligations.EncodeInvertsDecode : Prop :=
  ∀ op b c : Byte, (decodeBytes op b c).wellFormed = true
    ∧ encode (decodeBytes op b c) = [op, b, c].take (lengthOf op) ∧ 1 ≤ lengthOf op ∧ lengthOf op ≤ 3

/-- Some words written out from the spec's encodings: 43_load_store R280 (LDA #, LDA abs,X), R283 (STA (zp),Y),
42_branches R248 (BNE), R266 (BBS7), 45_rmw_bits R344 (RMB0), 47_control R421 (JSR), R424 (BRK), R433 (0x5C). -/
def Obligations.SpecWordsDecode : Prop :=
  decode [0xA9, 0x42] = .ok (.ldaImm 0x42, [])
    ∧ decode [0xBD, 0xFF, 0x12] = .ok (.ldaAbsx 0x12FF, [])
    ∧ decode [0x91, 0x80] = .ok (.staIzy 0x80, [])
    ∧ decode [0xD0, 0xFE] = .ok (.bne (-2), [])
    ∧ decode [0xFF, 0x27, 0x06] = .ok (.bbs7 0x27 6, [])
    ∧ decode [0x07, 0x40] = .ok (.rmb0 0x40, [])
    ∧ decode [0x20, 0x00, 0x03] = .ok (.jsr 0x0300, [])
    ∧ decode [0x00, 0xEE] = .ok (.brk 0xEE, [])
    ∧ decode [0x5C, 0x00, 0x10] = .ok (.nop5C 0x1000, [])

/-- 30_encoding R147: the bit number of RMBn, SMBn, BBRn and BBSn is opcode[6:4], and bit 7 tells reset from set. -/
def Obligations.BitInstructionsDecodeByField : Prop :=
  ∀ (n : Fin 8) (b c : Byte),
    decodeBytes (BitVec.ofNat 8 (n.val * 16 + 0x07)) b c = rmbAt n b
      ∧ decodeBytes (BitVec.ofNat 8 (0x80 + n.val * 16 + 0x07)) b c = smbAt n b
      ∧ decodeBytes (BitVec.ofNat 8 (n.val * 16 + 0x0F)) b c = bbrAt n b c.toInt
      ∧ decodeBytes (BitVec.ofNat 8 (0x80 + n.val * 16 + 0x0F)) b c = bbsAt n b c.toInt

/-! ### The step -/

/-- 41_accessors R207, 20_memory R100: after the agents have acted (nothing happens if there is none), when no reset is
requested, the core is neither stopped nor waiting and no interrupt is pending, and the bytes at PC, as the events of the
fetch read them, decode to `i`, the step runs `i`. The third byte is read at the event its instruction fetches it at. -/
def Obligations.StepRunsDecodedInstr : Prop :=
  ∀ (s : State) (i : Instr) (rest : List Byte),
    let u := s.betweenSteps
    (s.agents = [] → u = s)
      ∧ (u.resetRequest = false → u.stopped = false → u.pending = false → u.waiting = false →
          decode [u.byteAt 1 u.pc, u.byteAt 2 (u.pc + 1), u.byteAt (thirdByteEvent (u.byteAt 1 u.pc)) (u.pc + 2)]
            = .ok (i, rest) →
          step s = exec i u)

/-- 41_accessors R207, 60_exceptions R461: after the agents have acted, a requested reset comes first, then `stopped`,
`pending` and `waiting`. -/
def Obligations.StepTestsRunStateInOrder : Prop :=
  ∀ s : State,
    let u := s.betweenSteps
    (u.resetRequest = true → step s = .next u.resetStep)
      ∧ (u.resetRequest = false → u.stopped = true → step s = .next u.haltStep)
      ∧ (u.resetRequest = false → u.stopped = false → u.pending = true → step s = .next u.interruptEntry)
      ∧ (u.resetRequest = false → u.stopped = false → u.pending = false → u.waiting = true →
          step s = .next u.waitStep)

/-- 41_accessors R205, 40_addressing R185: no step raises a fatal fault, in any state. -/
def Obligations.StepNeverFaults : Prop :=
  ∀ (s : State) (f : Fault), step s ≠ .fault f

/-- 41_accessors R219, 60_exceptions R454, R455: a step refuses only a reserved opcode, under RESERVED_OPCODES = Refuse;
the refusal records the opcode, which stands at PC after the agents have acted, its address and what its one event left. -/
def Obligations.StepRefusesOnlyReserved : Prop :=
  ∀ (s : State) (r : Refusal), step s = .refused r →
    let u := s.betweenSteps
    u.reserved = .refuse ∧ u.byteAt 1 u.pc ∈ reservedOpcodes ∧ Refuses (.refused r) (u.byteAt 1 u.pc) u

/-- notes/assumptions/5.md (the model's own mechanism): an instruction placed where the step fetches is the one the next
step runs. -/
def Obligations.PlacedInstructionRunsNext : Prop :=
  ∀ (s : State) (nbits w : Nat) (i : Instr), decodeTableWord nbits w = some i →
    step (s.withFetchWord nbits w) = exec i (s.withFetchWord nbits w)

/-- Every step keeps every memory in its canonical form and every key inside its memory: "no out-of-range bank is
representable" (10_state R44, R42). -/
def Obligations.StepKeepsMemoriesWellFormed : Prop :=
  ∀ s t : State, s.wf = true → step s = .next t → t.wf = true

/-- The memories are well formed right after reset. -/
def Obligations.ResetMemoriesWellFormed : Prop := State.reset.wf = true

/-- 20_memory R71, R92, 10_state R37, R39, 41_accessors R211, R212, R216: whatever instruction runs, each of its 1 to 8
events counts one cycle, runs the NMI edge detector and reports by its address; the inputs move on by as many events. -/
def Obligations.EveryEventIsClocked : Prop :=
  ∀ (i : Instr) (s t : State), exec i s = .next t →
    t.cycles = s.cycles + t.trace.length ∧ 1 ≤ t.trace.length ∧ t.trace.length ≤ 8
      ∧ t.nmiPrev = s.prevAfter t.trace.length ∧ t.nmiEdge = s.edgeAfter t.trace.length
      ∧ t.reports = s.reports ++ reportsOf s.bus t.trace
      ∧ ∀ k, t.linesAt k = s.linesAt (k + t.trace.length)

/-- 70_reset R520: the cycles of every instruction step are the table's, with the page-crossing, branch and decimal
adders; a reserved opcode under RESERVED_OPCODES = Refuse takes one; interrupt entry, reset, a wait step and a halted step
take 7, 7, 1 and 0. -/
def Obligations.CycleTable : Prop :=
  (∀ (i : Instr) (s t : State), exec i s = .next t →
      t.trace.length = expectedCycles i s ∧ t.cycles = s.cycles + expectedCycles i s)
    ∧ (∀ (i : Instr) (s : State) (r : Refusal), exec i s = .refused r →
        ∃ op a u, r = .reservedOpcode op a u ∧ u.trace.length = 1 ∧ u.cycles = s.cycles + 1)
    ∧ ∀ s : State, s.interruptEntry.cycles = s.cycles + 7 ∧ s.resetStep.cycles = s.cycles + 7
        ∧ s.waitStep.cycles = s.cycles + 1 ∧ s.haltStep.cycles = s.cycles

/-- 10_state R49, 20_memory R90: no step changes the cartridge; nor do the parameters change. -/
def Obligations.StepKeepsCartridgeAndParameters : Prop :=
  ∀ s t : State, step s = .next t →
    t.bus.cart = s.bus.cart ∧ t.bus.map = s.bus.map ∧ t.reserved = s.reserved ∧ t.opcode5C = s.opcode5C

/-- 10_state R42, R48, 92_eei D35: without an agent's action no step clears a dirty flag or moves the quadrant; and what
the agents do between steps sets no dirty flag. -/
def Obligations.OnlyAgentsClearDirty : Prop :=
  (∀ s t : State, s.agents = [] → step s = .next t →
      t.bus.quadrant = s.bus.quadrant ∧ ∀ k : Fin 32, s.bus.dirty.get k = true → t.bus.dirty.get k = true)
    ∧ ∀ (s : State) (k : Fin 32), s.betweenSteps.bus.dirty.get k = true → s.bus.dirty.get k = true

/-- 41_accessors R217, 47_control R426: in the stop state a step makes no event and writes nothing, and so does every
later one. -/
def Obligations.HaltedIsFixedPoint : Prop :=
  ∀ s : State, s.agents = [] → s.resetRequest = false → s.stopped = true →
    ∃ t, step s = .next t ∧ t.arch = s.arch ∧ t.cycles = s.cycles ∧ t.pending = s.pending
      ∧ t.nmiEdge = s.nmiEdge ∧ t.nmiPrev = s.nmiPrev ∧ t.reports = s.reports ∧ t.trace = [] ∧ t.outcome = .halted ∧ step t = .next t

/-! ### The bus -/

/-- 20_memory R79 to R82, R84, R91: what a read of each region returns and reports, with the default parameters. -/
def Obligations.ReadsFollowAddressMap : Prop :=
  ∀ (b : Bus) (l : Lines) (a : Addr), b.map = defaultBusMap →
    (a.toNat ≤ 0x1FFF →
        b.read l a = b.ram.get (((b.sysctl.get 5).extractLsb' 6 2).toNat * 0x2000 + a.toNat) ∧ b.readReport a = [])
      ∧ (0x2000 ≤ a.toNat → a.toNat ≤ 0x2007 → b.read l a = 0x00 ∧ b.readReport a = [.unbackedRead a])
      ∧ (a = 0x2008 → b.read l a = l.pad1 ∧ b.readReport a = [])
      ∧ (a = 0x2009 → b.read l a = l.pad2 ∧ b.readReport a = [])
      ∧ (∀ k : Fin 16, a.toNat = 0x2800 + k.val → b.read l a = b.via.get k ∧ b.readReport a = [])
      ∧ (0x3000 ≤ a.toNat → a.toNat ≤ 0x3FFF → b.read l a = b.aram.get (a.toNat - 0x3000) ∧ b.readReport a = [])
      ∧ ((0x200A ≤ a.toNat ∧ a.toNat ≤ 0x27FF) ∨ (0x2810 ≤ a.toNat ∧ a.toNat ≤ 0x2FFF) →
          b.read l a = 0x00 ∧ b.readReport a = [.unmappedRead a])

/-- 20_memory R79 to R82, R84, R90, R91: what a write to each region stores and reports, with the default parameters. -/
def Obligations.WritesFollowAddressMap : Prop :=
  ∀ (b : Bus) (a : Addr) (v : Byte), b.map = defaultBusMap →
    (a.toNat ≤ 0x1FFF →
        b.write a v = { b with ram := b.ram.set (((b.sysctl.get 5).extractLsb' 6 2).toNat * 0x2000 + a.toNat) v }
          ∧ b.writeReport a v = [])
      ∧ (∀ k : Fin 10, a.toNat = 0x2000 + k.val →
          b.write a v = { b with sysctl := b.sysctl.set k.val v } ∧ b.writeReport a v = [])
      ∧ (∀ k : Fin 16, a.toNat = 0x2800 + k.val → k ≠ 1 →
          b.write a v = { b with via := b.via.set k.val v } ∧ b.writeReport a v = [])
      ∧ (0x3000 ≤ a.toNat → a.toNat ≤ 0x3FFF →
          b.write a v = { b with aram := b.aram.set (a.toNat - 0x3000) v } ∧ b.writeReport a v = [])
      ∧ (0x8000 ≤ a.toNat → b.write a v = b ∧ b.writeReport a v = [.readOnlyWrite a v])
      ∧ ((0x200A ≤ a.toNat ∧ a.toNat ≤ 0x27FF) ∨ (0x2810 ≤ a.toNat ∧ a.toNat ≤ 0x2FFF) →
          b.write a v = b ∧ b.writeReport a v = [.unmappedWrite a v])

/-- 20_memory R85 to R88, R92: the video window by its mode bits, with the default parameters: a framebuffer, a VRAM bank
seen through the quadrant, whose writes set the dirty flag of the bank and the quadrant, or the blitter registers. No access
to it is reported. -/
def Obligations.VideoWindowFollowsMode : Prop :=
  ∀ (b : Bus) (l : Lines) (a : Addr) (v : Byte), b.map = defaultBusMap → 0x4000 ≤ a.toNat → a.toNat ≤ 0x7FFF →
    let dma := b.sysctl.get 7
    let banking := b.sysctl.get 5
    let o := a.toNat - 0x4000
    let x := o % 128 + (if b.quadrant.getLsbD 0 then 128 else 0)
    let y := o / 128 + (if b.quadrant.getLsbD 1 then 128 else 0)
    let bank := (banking.extractLsb' 0 3).toNat
    (dma.getLsbD 5 = false → dma.getLsbD 0 = false →
        b.read l a = b.fb.get ((banking.extractLsb' 3 1).toNat * 0x4000 + o)
          ∧ b.write a v = { b with fb := b.fb.set ((banking.extractLsb' 3 1).toNat * 0x4000 + o) v })
      ∧ (dma.getLsbD 5 = true → dma.getLsbD 0 = false →
          b.read l a = b.vram.get (bank * 0x10000 + (y * 256 + x))
            ∧ ∃ h : bank * 4 + b.quadrant.toNat < 32,
                b.write a v = { b with
                  vram := b.vram.set (bank * 0x10000 + (y * 256 + x)) v
                  dirty := b.dirty.set (bank * 4 + b.quadrant.toNat) true h })
      ∧ (dma.getLsbD 0 = true → b.read l a = b.blit.get (o % 8) ∧ b.write a v = { b with blit := b.blit.set (o % 8) v })
      ∧ b.readReport a = [] ∧ b.writeReport a v = []

/-- 20_memory R110: a byte written to RAM, the I/O adapter, audio RAM or the video window reads back. -/
def Obligations.WriteThenReadReturnsByte : Prop :=
  ∀ (b : Bus) (l : Lines) (a : Addr) (v : Byte),
    a.toNat ≤ 0x1FFF ∨ (0x2800 ≤ a.toNat ∧ a.toNat ≤ 0x280F) ∨ (0x3000 ≤ a.toNat ∧ a.toNat ≤ 0x7FFF) →
    (b.write a v).read l a = v

/-- 20_memory R82, R83: a write to the output register shifts the data bit in when the clock bit rises and then latches
the bank when the latch bit rises, by edge = new AND NOT old; then it stores the byte. It is not reported (R92). -/
def Obligations.OutputRegisterClocksShiftRegister : Prop :=
  ∀ (b : Bus) (new : Byte), b.map = defaultBusMap →
    let edge := new &&& ~~~(b.via.get 1)
    let sr := if edge.getLsbD 0 then (b.sr <<< 1) ||| (if new.getLsbD 1 then 1 else 0) else b.sr
    b.write 0x2801 new
      = { b with sr := sr, cartBank := (if edge.getLsbD 2 then sr.setWidth 7 else b.cartBank), via := b.via.set 1 new }
        ∧ b.writeReport 0x2801 new = []

/-- 70_reset R504: the sixteen writes select the bank, whatever the shift register and the output register held. -/
def Obligations.BankSelectSequenceSelects : Prop :=
  ∀ (b : Bus) (n : BitVec 7), b.map = defaultBusMap →
    ((selectWrites n).foldl (fun c v => c.write 0x2801 v) b).cartBank = n

/-- 20_memory R89, R94 to R97, R92: what the cartridge window shows, for each variant; no read of it is reported. -/
def Obligations.CartridgeWindows : Prop :=
  ∀ (b : Bus) (l : Lines) (a : Addr), 0x8000 ≤ a.toNat →
    let c := a.toNat - 0x8000
    (b.cart.size = .k8 → b.read l a = b.cart.data.get (c % 0x2000))
      ∧ (b.cart.size = .k32 → b.read l a = b.cart.data.get c)
      ∧ (b.cart.size = .m2 → 0xC000 ≤ a.toNat → b.read l a = b.cart.data.get (0x1FC000 + (a.toNat - 0xC000)))
      ∧ (b.cart.size = .m2 → a.toNat < 0xC000 → b.read l a = b.cart.data.get (b.cartBank.toNat * 0x4000 + c))
      ∧ b.readReport a = []

/-- 20_memory R93: the payload length alone selects the variant, its bytes are what the cartridge shows, and any other
length is fatal. -/
def Obligations.ConstructionChecksPayload : Prop :=
  ∀ payload : List Byte,
    (payload.length ≠ 8192 → payload.length ≠ 32768 → payload.length ≠ 2097152 →
        State.construct payload = .fault (.cartSize payload.length))
      ∧ (∀ size : CartSize, payload.length = size.bytes →
          ∃ s, State.construct payload = .next s ∧ s.bus.cart.size = size ∧ s.wf = true
            ∧ (∀ k, k < payload.length → s.bus.cart.data.get k = payload.getD k 0)
            ∧ step s = .next s.resetStep)

/-! ### Addressing -/

/-- 40_addressing R168 to R175, R183, 30_encoding R143: the effective address of every memory mode. The sums of the
zero-page modes wrap modulo 256, those of the indexed modes modulo 65536, and the second byte of a zero-page pointer wraps
within the zero page; the pointer of izx is read by events 3 and 4 after the opcode, those of izy and izp by 2 and 3. `s` is
the state after the opcode event. -/
def Obligations.ZeroPageSumsWrap : Prop :=
  ∀ (s : State) (z : Byte) (a : Addr) (slow : Bool),
    let pointer := fun (k p : Nat) =>
      (s.byteAt (k + 1) (BitVec.ofNat 16 ((p + 1) % 256))).toNat * 256 + (s.byteAt k (BitVec.ofNat 16 p)).toNat
    ((Mode.zp z).address s).toNat = z.toNat
      ∧ ((Mode.zpx z).address s).toNat = (z.toNat + s.x.toNat) % 256
      ∧ ((Mode.zpy z).address s).toNat = (z.toNat + s.y.toNat) % 256
      ∧ (Mode.abs a).address s = a
      ∧ ((Mode.absx a slow).address s).toNat = (a.toNat + s.x.toNat) % 65536
      ∧ ((Mode.absy a slow).address s).toNat = (a.toNat + s.y.toNat) % 65536
      ∧ ((Mode.izx z).address s).toNat = pointer 3 ((z.toNat + s.x.toNat) % 256)
      ∧ ((Mode.izy z slow).address s).toNat = (pointer 2 z.toNat + s.y.toNat) % 65536
      ∧ ((Mode.izp z).address s).toNat = pointer 2 z.toNat
      ∧ (Mode.absx a slow).base s = a ∧ (Mode.absy a slow).base s = a
      ∧ ((Mode.izy z slow).base s).toNat = pointer 2 z.toNat
      ∧ ∀ k p, (s.zpPointer k p).toNat = pointer k p.toNat

/-- 40_addressing R161: an indexed address leaves its page exactly when the low byte plus the index exceeds 0xFF. -/
def Obligations.PageCrossingIsLowByteCarry : Prop :=
  ∀ (base : Addr) (index : Byte),
    pageCrossed base (base + zext16 index) = decide (0xFF < (loByte base).toNat + index.toNat)

/-- 40_addressing R162: the slow variant forms the same address and makes one idle cycle more than the fast one exactly
when there is no page crossing. -/
def Obligations.SlowVariantAlwaysSpendsIndexCycle : Prop :=
  ∀ (s : State) (a : Addr) (z : Byte),
    ∀ mk ∈ [fun slow => Mode.absx a slow, fun slow => Mode.absy a slow, fun slow => Mode.izy z slow],
      (mk true).accessor s = (mk false).accessor s
        ∧ (mk true).events s
          = if pageCrossed ((mk false).base s) ((mk false).address s) then (mk false).events s
            else ((mk false).events s).idle

/-- 41_accessors R200 to R205: each operation on each accessor variant: what it returns and which events it makes, or the
fatal fault. -/
def Obligations.AccessorCapabilities : Prop :=
  ∀ (s : State) (v m : Byte) (ea target : Addr) (f : Byte → Flags → Byte × Flags) (taken : Bool),
    let old := s.readByte ea
    let onMemory := f old s.p
    let onA := f s.a s.p
    -- ReadOp
    readOp (.imm v) s = .ok (v, s) ∧ readOp .regA s = .ok (s.a, s) ∧ readOp (.bitBranch m target) s = .ok (m, s)
      ∧ readOp (.addr ea) s = .ok (old, s.readEvent .data ea)
      ∧ (∀ acc, acc = .none ∨ acc = .branch target → readOp acc s = .error (.capability .read acc))
      -- WriteOp and RmwOp
      ∧ writeOp (.addr ea) v s = .ok (s.writeEvent .data ea v) ∧ writeOp .regA v s = .ok (s.setA v)
      ∧ rmwOp (.addr ea) f s
        = .ok ((((s.readEvent .locked ea).writeEvent .locked ea old).writeEvent .locked ea onMemory.1).setP onMemory.2)
      ∧ rmwOp .regA f s = .ok ((s.setA onA.1).setP onA.2)
      ∧ (∀ acc, acc = .none ∨ acc = .imm m ∨ acc = .branch target ∨ acc = .bitBranch m target →
          writeOp acc v s = .error (.capability .write acc) ∧ rmwOp acc f s = .error (.capability .rmw acc))
      -- BranchOp
      ∧ (∀ acc, acc = .branch target ∨ acc = .bitBranch m target →
          ∃ t, branchOp acc taken s = .ok t ∧ t.arch = { s.arch with pc := if taken then target else s.pc }
            ∧ t.trace = s.trace ++ branchTrace s.pc target taken)
      ∧ (∀ acc, acc = .none ∨ acc = .regA ∨ acc = .imm m ∨ acc = .addr ea →
          branchOp acc taken s = .error (.capability .branch acc))
      -- the effective address
      ∧ effectiveAddress (.addr ea) = .ok ea
      ∧ (∀ acc, acc = .none ∨ acc = .regA ∨ acc = .imm m ∨ acc = .branch target ∨ acc = .bitBranch m target →
          effectiveAddress acc = .error (.capability .effectiveAddress acc))
      -- the null accessor
      ∧ readOp .null s = .error (.nullAccessor .read) ∧ writeOp .null v s = .error (.nullAccessor .write)
      ∧ rmwOp .null f s = .error (.nullAccessor .rmw) ∧ branchOp .null taken s = .error (.nullAccessor .branch)
      ∧ effectiveAddress .null = .error (.nullAccessor .effectiveAddress)

/-! ### Arithmetic and flags -/

/-- 44_alu R301: AddBinary is addition modulo 256, C its carry, V its signed overflow, N and Z of the result. -/
def Obligations.BinaryAddition : Prop :=
  ∀ (a b : Byte) (p : Flags),
    let r := addBinary a b p
    r.1.toNat = (a.toNat + b.toNat + bitNat p.c) % 256
      ∧ r.2.c = decide (0xFF < a.toNat + b.toNat + bitNat p.c)
      ∧ r.2.v = decide (a.toInt + b.toInt + bitNat p.c < -128 ∨ 127 < a.toInt + b.toInt + bitNat p.c)
      ∧ r.2.n = r.1.getLsbD 7 ∧ r.2.z = decide (r.1 = 0) ∧ r.2.d = p.d ∧ r.2.i = p.i

/-- 44_alu R303: SubBinary is subtraction modulo 256, C no borrow, V its signed overflow, N and Z of the result. -/
def Obligations.BinarySubtraction : Prop :=
  ∀ (a b : Byte) (p : Flags),
    let r := subBinary a b p
    r.1.toNat = (256 + a.toNat - b.toNat - (1 - bitNat p.c)) % 256
      ∧ r.2.c = decide (b.toNat + (1 - bitNat p.c) ≤ a.toNat)
      ∧ r.2.v = decide (a.toInt - b.toInt - (1 - bitNat p.c : Nat) < -128
          ∨ 127 < a.toInt - b.toInt - (1 - bitNat p.c : Nat))
      ∧ r.2.n = r.1.getLsbD 7 ∧ r.2.z = decide (r.1 = 0) ∧ r.2.d = p.d ∧ r.2.i = p.i

/-- 44_alu R302: AddDecimal on any operands corrects the low digit, then the sum; N and Z follow the corrected result, V is
the signed overflow of the sum before the high correction. On decimal digits it is the sum modulo 100 with its decimal
carry. -/
def Obligations.DecimalAddition : Prop :=
  ∀ (a b : Byte) (p : Flags),
    let r := addDecimal a b p
    let low := a.toNat % 16 + b.toNat % 16 + bitNat p.c
    let al := if 10 ≤ low then (low + 6) % 16 + 16 else low
    let sum := 16 * (a.toNat / 16) + 16 * (b.toNat / 16) + al
    let fixed := if 0xA0 ≤ sum then sum + 0x60 else sum
    let signed : Int := (a &&& 0xF0).toInt + (b &&& 0xF0).toInt + al
    r.1.toNat = fixed % 256 ∧ r.2.c = decide (0x100 ≤ fixed) ∧ r.2.v = decide (signed < -128 ∨ 127 < signed)
      ∧ r.2.n = r.1.getLsbD 7 ∧ r.2.z = decide (r.1 = 0) ∧ r.2.d = p.d ∧ r.2.i = p.i
      ∧ (isBcd a → isBcd b →
          isBcd r.1 ∧ bcd r.1 = (bcd a + bcd b + bitNat p.c) % 100 ∧ r.2.c = decide (100 ≤ bcd a + bcd b + bitNat p.c))

/-- 44_alu R304: SubDecimal on any operands corrects the binary difference by its borrows; C and V are as in binary mode, N
and Z follow the corrected result. On decimal digits it is the difference modulo 100, and C is no borrow. -/
def Obligations.DecimalSubtraction : Prop :=
  ∀ (a b : Byte) (p : Flags),
    let r := subDecimal a b p
    let difference : Int := a.toNat - b.toNat + bitNat p.c - 1
    let al : Int := (a.toNat % 16 : Nat) - (b.toNat % 16 : Nat) + bitNat p.c - 1
    let fixed := difference - (if difference < 0 then 0x60 else 0) - (if al < 0 then 0x06 else 0)
    (r.1.toNat : Int) = fixed % 256 ∧ r.2.c = decide (0 ≤ difference)
      ∧ r.2.c = (subBinary a b p).2.c ∧ r.2.v = (subBinary a b p).2.v
      ∧ r.2.n = r.1.getLsbD 7 ∧ r.2.z = decide (r.1 = 0) ∧ r.2.d = p.d ∧ r.2.i = p.i
      ∧ (isBcd a → isBcd b →
          isBcd r.1 ∧ bcd r.1 = (100 + bcd a - bcd b - (1 - bitNat p.c)) % 100
            ∧ r.2.c = decide (bcd b + (1 - bitNat p.c) ≤ bcd a))

/-- 10_state R35: the layout of P as a byte; a byte written into P loses bits 5 and 4. -/
def Obligations.StatusByteLayout : Prop :=
  ∀ (p : Flags) (brk : Bool) (v : Byte),
    p.toByte brk = BitVec.ofNat 8 (128 * bitNat p.n + 64 * bitNat p.v + 32 + 16 * bitNat brk + 8 * bitNat p.d
        + 4 * bitNat p.i + 2 * bitNat p.z + bitNat p.c)
      ∧ Flags.ofByte (p.toByte brk) = p
      ∧ (Flags.ofByte v).toByte brk = (v &&& 0xCF) ||| 0x20 ||| (if brk then 0x10 else 0x00)

/-! ### Loads, stores and arithmetic -/

/-- 43_load_store R280, R281, R282, R287: LDA, LDX and LDY, in every form, answer a next state in which the register and
N and Z take the operand byte and nothing else changes but PC; every byte of memory reads as before. Constructors:
ldaImm, ldaZp, ldaZpx, ldaAbs, ldaAbsx, ldaAbsy, ldaIzx, ldaIzy, ldaIzp, ldxImm, ldxZp, ldxZpy, ldxAbs, ldxAbsy, ldyImm,
ldyZp, ldyZpx, ldyAbs, ldyAbsx. -/
def Obligations.LoadsComplete : Prop :=
  ∀ (i : Instr) (op : Byte) (m : Mode) (s : State),
    let v := m.operandByte (s.opcode op)
    let after := { movedPast m s with p := s.p.setNZ v }
    (ldaForm i = some (op, m) → Completes i op m s (m.readTrace (s.opcode op)) { after with a := v })
      ∧ (ldxForm i = some (op, m) → Completes i op m s (m.readTrace (s.opcode op)) { after with x := v })
      ∧ (ldyForm i = some (op, m) → Completes i op m s (m.readTrace (s.opcode op)) { after with y := v })

/-- 43_load_store R283 to R287: STA, STX, STY and STZ, in every form, answer a next state in which the register's byte, or
zero, is stored at the effective address of the mode and nothing else changes but PC; no other byte changes.
Constructors: staZp, staZpx, staAbs, staAbsx, staAbsy, staIzx, staIzy, staIzp, stxZp, stxZpy, stxAbs, styZp, styZpx,
styAbs, stzZp, stzZpx, stzAbs, stzAbsx. -/
def Obligations.StoresComplete : Prop :=
  ∀ (i : Instr) (op : Byte) (m : Mode) (s : State),
    (staForm i = some (op, m) → StoreCompletes i op m s s.a)
      ∧ (stxForm i = some (op, m) → StoreCompletes i op m s s.x)
      ∧ (styForm i = some (op, m) → StoreCompletes i op m s s.y)
      ∧ (stzForm i = some (op, m) → StoreCompletes i op m s 0x00)

/-- 44_alu R306, R307: ADC and SBC, in every form, answer a next state in which A, N, V, Z and C take the binary result
if D is clear, the decimal one after one idle cycle more if it is set, and nothing else changes but PC. Constructors:
adcImm, adcZp, adcZpx, adcAbs, adcAbsx, adcAbsy, adcIzx, adcIzy, adcIzp, sbcImm, sbcZp, sbcZpx, sbcAbs, sbcAbsx, sbcAbsy,
sbcIzx, sbcIzy, sbcIzp. -/
def Obligations.AddAndSubtractComplete : Prop :=
  ∀ (i : Instr) (op : Byte) (m : Mode) (s : State),
    let v := m.operandByte (s.opcode op)
    let events := m.readTrace (s.opcode op) ++ (if s.p.d then [.idle] else [])
    let sum := if s.p.d then addDecimal s.a v s.p else addBinary s.a v s.p
    let difference := if s.p.d then subDecimal s.a v s.p else subBinary s.a v s.p
    (adcForm i = some (op, m) → Completes i op m s events { movedPast m s with a := sum.1, p := sum.2 })
      ∧ (sbcForm i = some (op, m) → Completes i op m s events { movedPast m s with a := difference.1, p := difference.2 })

/-- 44_alu R308, R309, R310: AND, ORA and EOR, in every form, answer a next state in which A takes the result, N and Z
follow it, and nothing else changes but PC. Constructors: andImm, andZp, andZpx, andAbs, andAbsx, andAbsy, andIzx, andIzy,
andIzp, oraImm, oraZp, oraZpx, oraAbs, oraAbsx, oraAbsy, oraIzx, oraIzy, oraIzp, eorImm, eorZp, eorZpx, eorAbs, eorAbsx,
eorAbsy, eorIzx, eorIzy, eorIzp. -/
def Obligations.LogicCompletes : Prop :=
  ∀ (i : Instr) (op : Byte) (m : Mode) (s : State),
    let v := m.operandByte (s.opcode op)
    let after := fun r : Byte => { movedPast m s with a := r, p := s.p.setNZ r }
    (andForm i = some (op, m) → Completes i op m s (m.readTrace (s.opcode op)) (after (s.a &&& v)))
      ∧ (oraForm i = some (op, m) → Completes i op m s (m.readTrace (s.opcode op)) (after (s.a ||| v)))
      ∧ (eorForm i = some (op, m) → Completes i op m s (m.readTrace (s.opcode op)) (after (s.a ^^^ v)))

/-- 44_alu R305, R311 to R314: CMP, CPX, CPY and BIT, in every form, answer a next state in which only flags and PC
change: a compare sets C to reg >= m, Z to reg = m and N to bit 7 of the difference; BIT sets Z from A AND m and, but for
the immediate form, N and V from bits 7 and 6 of m. Constructors: cmpImm, cmpZp, cmpZpx, cmpAbs, cmpAbsx, cmpAbsy, cmpIzx,
cmpIzy, cmpIzp, cpxImm, cpxZp, cpxAbs, cpyImm, cpyZp, cpyAbs, bitImm, bitZp, bitZpx, bitAbs, bitAbsx. -/
def Obligations.ComparesAndBitComplete : Prop :=
  ∀ (i : Instr) (op : Byte) (m : Mode) (s : State),
    let v := m.operandByte (s.opcode op)
    let events := m.readTrace (s.opcode op)
    let compared := fun reg : Byte =>
      { movedPast m s with
        p := { s.p with c := decide (v.toNat ≤ reg.toNat), z := decide (reg = v), n := (reg - v).getLsbD 7 } }
    (cmpForm i = some (op, m) → Completes i op m s events (compared s.a))
      ∧ (cpxForm i = some (op, m) → Completes i op m s events (compared s.x))
      ∧ (cpyForm i = some (op, m) → Completes i op m s events (compared s.y))
      ∧ (bitForm i = some (op, m) → (∀ w, m ≠ .imm w) →
          Completes i op m s events
            { movedPast m s with
              p := { s.p with z := decide (s.a &&& v = 0), n := v.getLsbD 7, v := v.getLsbD 6 } })
      ∧ (bitForm i = some (op, m) → (∃ w, m = .imm w) →
          Completes i op m s events { movedPast m s with p := { s.p with z := decide (s.a &&& v = 0) } })

/-! ### Read-modify-write -/

/-- 45_rmw_bits R330 to R336, R341, R342: the memory forms of ASL, LSR, ROL, ROR, INC, DEC, TSB and TRB answer a next
state: a locked read, a locked rewrite of the unmodified byte and a locked write of the result at the effective address,
the flags of the function, and nothing else changes but PC; no other byte changes. Constructors: aslZp, aslZpx, aslAbs,
aslAbsx, lsrZp, lsrZpx, lsrAbs, lsrAbsx, rolZp, rolZpx, rolAbs, rolAbsx, rorZp, rorZpx, rorAbs, rorAbsx, incZp, incZpx,
incAbs, incAbsx, decZp, decZpx, decAbs, decAbsx, tsbZp, tsbAbs, trbZp, trbAbs. -/
def Obligations.ReadModifyWriteCompletes : Prop :=
  ∀ (i : Instr) (op : Byte) (m : Mode) (s : State),
    (aslForm i = some (op, m) →
        RmwCompletes i op m s fun v p => (v <<< 1, { p with c := v.getLsbD 7 }.setNZ (v <<< 1)))
      ∧ (lsrForm i = some (op, m) →
          RmwCompletes i op m s fun v p => (v >>> 1, { p with c := v.getLsbD 0 }.setNZ (v >>> 1)))
      ∧ (rolForm i = some (op, m) →
          RmwCompletes i op m s fun v p =>
            let r := (v <<< 1) ||| (if p.c then 0x01 else 0x00)
            (r, { p with c := v.getLsbD 7 }.setNZ r))
      ∧ (rorForm i = some (op, m) →
          RmwCompletes i op m s fun v p =>
            let r := (v >>> 1) ||| (if p.c then 0x80 else 0x00)
            (r, { p with c := v.getLsbD 0 }.setNZ r))
      ∧ (incForm i = some (op, m) → RmwCompletes i op m s fun v p => (v + 1, p.setNZ (v + 1)))
      ∧ (decForm i = some (op, m) → RmwCompletes i op m s fun v p => (v - 1, p.setNZ (v - 1)))
      ∧ (tsbForm i = some (op, m) →
          RmwCompletes i op m s fun v p => (v ||| s.a, { p with z := decide (s.a &&& v = 0) }))
      ∧ (trbForm i = some (op, m) →
          RmwCompletes i op m s fun v p => (v &&& ~~~s.a, { p with z := decide (s.a &&& v = 0) }))

/-- 45_rmw_bits R343 to R360: RMBn and SMBn answer a next state in which bit n of the zero-page byte is cleared or set, by
the three locked events; no flag, register or other byte changes. Constructors: rmb0 to rmb7, smb0 to smb7. -/
def Obligations.BitResetAndSetComplete : Prop :=
  ∀ (i : Instr) (op : Byte) (m : Mode) (n : Nat) (s : State),
    (rmbForm i = some (op, m, n) → RmwCompletes i op m s fun v p => (v &&& ~~~(BitVec.ofNat 8 (2 ^ n)), p))
      ∧ (smbForm i = some (op, m, n) → RmwCompletes i op m s fun v p => (v ||| BitVec.ofNat 8 (2 ^ n), p))

/-- 45_rmw_bits R331 to R336: the accumulator forms answer a next state in which A and the flags take the result and
nothing else changes but PC. Constructors: aslAcc, lsrAcc, rolAcc, rorAcc, incAcc, decAcc. -/
def Obligations.AccumulatorFormsComplete : Prop :=
  ∀ s : State,
    AccCompletes .aslAcc 0x0A s (fun v p => (v <<< 1, { p with c := v.getLsbD 7 }.setNZ (v <<< 1)))
      ∧ AccCompletes .lsrAcc 0x4A s (fun v p => (v >>> 1, { p with c := v.getLsbD 0 }.setNZ (v >>> 1)))
      ∧ AccCompletes .rolAcc 0x2A s (fun v p =>
          let r := (v <<< 1) ||| (if p.c then 0x01 else 0x00)
          (r, { p with c := v.getLsbD 7 }.setNZ r))
      ∧ AccCompletes .rorAcc 0x6A s (fun v p =>
          let r := (v >>> 1) ||| (if p.c then 0x80 else 0x00)
          (r, { p with c := v.getLsbD 0 }.setNZ r))
      ∧ AccCompletes .incAcc 0x1A s (fun v p => (v + 1, p.setNZ (v + 1)))
      ∧ AccCompletes .decAcc 0x3A s (fun v p => (v - 1, p.setNZ (v - 1)))

/-- 45_rmw_bits R337 to R340: INX, INY, DEX and DEY answer a next state in which the register, modulo 256, and N and Z
change and nothing else but PC. Constructors: inx, iny, dex, dey. -/
def Obligations.IndexStepsComplete : Prop :=
  ∀ s : State,
    ImpCompletes .inx 0xE8 s { s.arch with x := s.x + 1, p := s.p.setNZ (s.x + 1) }
      ∧ ImpCompletes .iny 0xC8 s { s.arch with y := s.y + 1, p := s.p.setNZ (s.y + 1) }
      ∧ ImpCompletes .dex 0xCA s { s.arch with x := s.x - 1, p := s.p.setNZ (s.x - 1) }
      ∧ ImpCompletes .dey 0x88 s { s.arch with y := s.y - 1, p := s.p.setNZ (s.y - 1) }

/-! ### Transfers, stack and flags -/

/-- 46_transfer R381 to R386: the transfers answer a next state in which the destination takes the source, N and Z follow
it (not for TXS), and nothing else changes but PC. Constructors: tax, tay, txa, tya, tsx, txs. -/
def Obligations.TransfersComplete : Prop :=
  ∀ s : State,
    ImpCompletes .tax 0xAA s { s.arch with x := s.a, p := s.p.setNZ s.a }
      ∧ ImpCompletes .tay 0xA8 s { s.arch with y := s.a, p := s.p.setNZ s.a }
      ∧ ImpCompletes .txa 0x8A s { s.arch with a := s.x, p := s.p.setNZ s.x }
      ∧ ImpCompletes .tya 0x98 s { s.arch with a := s.y, p := s.p.setNZ s.y }
      ∧ ImpCompletes .tsx 0xBA s { s.arch with x := s.sp, p := s.p.setNZ s.sp }
      ∧ ImpCompletes .txs 0x9A s { s.arch with sp := s.x }

/-- 46_transfer R380, R387 to R390: the pushes answer a next state in which the byte stands at 0x0100 | S, S is one less
modulo 256, and nothing else changes but PC; PHP pushes P with bits 5 and 4 set. Constructors: pha, php, phx, phy. -/
def Obligations.PushesComplete : Prop :=
  ∀ s : State, PushCompletes .pha 0x48 s s.a ∧ PushCompletes .php 0x08 s (s.p.toByte true)
    ∧ PushCompletes .phx 0xDA s s.x ∧ PushCompletes .phy 0x5A s s.y

/-- 46_transfer R380, R391 to R394: the pulls answer a next state in which S is one more modulo 256, the destination takes
the byte there, N and Z follow it (PLP: all of P), and nothing else changes but PC; the sample still sees the old I.
Constructors: pla, plp, plx, ply. -/
def Obligations.PullsComplete : Prop :=
  ∀ s : State,
    let v := pulledAt4 s
    let after := { movedPast .stk s with sp := s.sp + 1 }
    Completes .pla 0x68 .stk s (pullTrace s) { after with a := v, p := s.p.setNZ v }
      ∧ Completes .plx 0xFA .stk s (pullTrace s) { after with x := v, p := s.p.setNZ v }
      ∧ Completes .ply 0x7A .stk s (pullTrace s) { after with y := v, p := s.p.setNZ v }
      ∧ Completes .plp 0x28 .stk s (pullTrace s) { after with p := Flags.ofByte v }

/-- 46_transfer R395 to R401, 47_control R427: each flag instruction answers a next state in which its one flag changes,
NOP one in which none does, and nothing else changes but PC; the sample still sees the old I. Constructors: clc, sec, cli,
sei, cld, sed, clv, nop. -/
def Obligations.FlagInstructionsComplete : Prop :=
  ∀ s : State,
    ImpCompletes .clc 0x18 s { s.arch with p := { s.p with c := false } }
      ∧ ImpCompletes .sec 0x38 s { s.arch with p := { s.p with c := true } }
      ∧ ImpCompletes .cli 0x58 s { s.arch with p := { s.p with i := false } }
      ∧ ImpCompletes .sei 0x78 s { s.arch with p := { s.p with i := true } }
      ∧ ImpCompletes .cld 0xD8 s { s.arch with p := { s.p with d := false } }
      ∧ ImpCompletes .sed 0xF8 s { s.arch with p := { s.p with d := true } }
      ∧ ImpCompletes .clv 0xB8 s { s.arch with p := { s.p with v := false } }
      ∧ ImpCompletes .nop 0xEA s s.arch

/-- 47_control R425, R426: WAI and STP answer a next state after two idle cycles, in which only `waiting` or `stopped` is
set and PC moved. Constructors: wai, stp. -/
def Obligations.WaitAndStopComplete : Prop :=
  ∀ s : State, Completes .wai 0xCB .imp s [.idle] { s.arch with pc := s.pc + 1, waiting := true }
    ∧ Completes .stp 0xDB .imp s [.idle] { s.arch with pc := s.pc + 1, stopped := true }

/-! ### Branches and jumps -/

/-- 42_branches R240, R242 to R250, 41_accessors R215: the relative branches answer a next state: taken by their flag, to
the address of the next instruction plus the offset, with one idle cycle and a second one and an early interrupt sample
when the page changes; nothing but PC changes. Constructors: bpl, bmi, bvc, bvs, bcc, bcs, bne, beq, bra. -/
def Obligations.BranchesComplete : Prop :=
  ∀ (i : Instr) (op : Byte) (off : Int) (cond : Flags → Bool) (s : State), branchForm i = some (op, off, cond) →
    BranchCompletes i op (.rel off) s 2 (s.pc + 2 + sext16 off) (cond s.p)

/-- 42_branches R241, R251 to R266, 41_accessors R215: the bit-test branches answer a next state: taken when the tested
bit of the zero-page byte, read at event 3, has their value; otherwise as the relative branches; nothing but PC changes.
Constructors: bbr0 to bbr7, bbs0 to bbs7. -/
def Obligations.BitBranchesComplete : Prop :=
  ∀ (i : Instr) (op z : Byte) (off : Int) (n : Nat) (value : Bool) (s : State),
    bitBranchForm i = some (op, z, off, n, value) →
    BranchCompletes i op (.zpr z off) s 5 (s.pc + 3 + sext16 off) (decide ((s.byteAt 3 (zext16 z)).getLsbD n = value))

/-- 47_control R420, 40_addressing R170, R176, R177: the jumps answer a next state in which PC is the operand, or the two
bytes at the pointer, whose second address carries into the page; nothing else changes. Constructors: jmpAbs, jmpInd,
jmpIax. -/
def Obligations.JumpsComplete : Prop :=
  ∀ (s : State) (a : Addr),
    Completes (.jmpAbs a) 0x4C (.abs a) s [] { s.arch with pc := a }
      ∧ Completes (.jmpInd a) 0x6C (.ind a) s []
          { s.arch with pc := joinBytes (s.byteAt 6 (a + 1)) (s.byteAt 5 a) }
      ∧ Completes (.jmpIax a) 0x7C (.iax a) s []
          { s.arch with pc := joinBytes (s.byteAt 6 (a + zext16 s.x + 1)) (s.byteAt 5 (a + zext16 s.x)) }

/-- 47_control R421: JSR answers a next state: the address of its last byte is pushed, high byte first; its high byte is
read from memory at event 6, after the pushes; PC is the target. No other byte changes. Constructor: jsr. -/
def Obligations.JsrCompletes : Prop :=
  ∀ (s : State) (a : Addr),
    let ret := s.pc + 2
    let bus := (s.bus.write (stackAddr s.sp) (hiByte ret)).write (stackAddr (s.sp - 1)) (loByte ret)
    let hi := bus.read (s.linesAt 6) ret
    Completes (.jsr a) 0x20 (.jsr (loByte a)) s
        [.idle, .write .data (stackAddr s.sp) (hiByte ret), .write .data (stackAddr (s.sp - 1)) (loByte ret),
          .read .operand ret hi]
        { s.arch with pc := joinBytes hi (loByte a), sp := s.sp - 2, bus := bus }
      ∧ ∀ l, s.bus.locate (stackAddr s.sp) ≠ some l → s.bus.locate (stackAddr (s.sp - 1)) ≠ some l →
          bus.peek l = s.bus.peek l

/-- 47_control R422: RTS answers a next state: PC is the pulled address plus one, S two more; nothing else changes.
Constructor: rts. -/
def Obligations.RtsCompletes : Prop :=
  ∀ s : State,
    let lo := s.byteAt 4 (stackAddr (s.sp + 1))
    let hi := s.byteAt 5 (stackAddr (s.sp + 2))
    Completes .rts 0x60 .stk s
      [.idle, .read .data (stackAddr (s.sp + 1)) lo, .read .data (stackAddr (s.sp + 2)) hi, .idle]
      { s.arch with pc := joinBytes hi lo + 1, sp := s.sp + 2 }

/-- 47_control R423, 41_accessors R210: RTI answers a next state: P, then PC, are pulled, S is three more, and the sample
at event 5 sees the restored I; nothing else changes. Constructor: rti. -/
def Obligations.RtiCompletes : Prop :=
  ∀ s : State,
    let status := s.byteAt 4 (stackAddr (s.sp + 1))
    let lo := s.byteAt 5 (stackAddr (s.sp + 2))
    let hi := s.byteAt 6 (stackAddr (s.sp + 3))
    ∃ t, exec .rti s = .next t
      ∧ Ran 0x40 .stk s t
          [.idle, .read .data (stackAddr (s.sp + 1)) status, .read .data (stackAddr (s.sp + 2)) lo,
            .read .data (stackAddr (s.sp + 3)) hi]
          { s.arch with pc := joinBytes hi lo, sp := s.sp + 3, p := Flags.ofByte status }
      ∧ t.pending = (s.pending || s.sampleAfter (Flags.ofByte status).i 5)

/-- 47_control R424, 41_accessors R210, 60_exceptions R461: BRK answers a next state, whatever I is: the address after its
signature byte and P with bit 4 set are pushed, I is set and D cleared, PC comes from 0xFFFE even when an NMI edge is
latched, and the sample at event 6 sees only an NMI edge. No other byte changes. Constructor: brk. -/
def Obligations.BrkCompletes : Prop :=
  ∀ (s : State) (sig : Byte),
    let ret := s.pc + 2
    let status := s.p.toByte true
    let bus := frameBus s.bus s.sp ret status
    let lo := bus.read (s.linesAt 6) 0xFFFE
    let hi := bus.read (s.linesAt 7) 0xFFFF
    (∃ t, exec (.brk sig) s = .next t
        ∧ Ran 0x00 (.brk sig) s t
            (frameTrace s.sp ret status ++ [.read .pointer 0xFFFE lo, .read .pointer 0xFFFF hi])
            { s.arch with pc := joinBytes hi lo, sp := s.sp - 3, bus := bus, p := { s.p with i := true, d := false } }
        ∧ t.pending = (s.pending || s.edgeAfter 6))
      ∧ FrameOnly s.bus bus s.sp

/-! ### Reserved opcodes -/

/-- 47_control R428 to R433, 30_encoding R149: under RESERVED_OPCODES = Nop every reserved opcode answers a next state: it
makes its operand read, if its form has one, and nothing changes but PC. The events of 0x5C are the model's choice
(notes/assumptions/19.md), since the rules disagree: with `fiveIdles` the five idle cycles of R433, with `discardedRead` the
read of 41_accessors R206 and four idle cycles; in both cases nothing changes but PC. Constructors: nop02,
nop22, nop42, nop62, nop82, nopC2, nopE2, nop44, nop54, nopD4, nopF4, nopDC, nopFC, nop5C, and the thirty one-byte ones:
nop03, nop13, nop23, nop33, nop43, nop53, nop63, nop73, nop83, nop93, nopA3, nopB3, nopC3, nopD3, nopE3, nopF3, nop0B,
nop1B, nop2B, nop3B, nop4B, nop5B, nop6B, nop7B, nop8B, nop9B, nopAB, nopBB, nopEB, nopFB. -/
def Obligations.ReservedOpcodesRunAsNops : Prop :=
  ∀ (i : Instr) (op : Byte) (m : Mode) (a : Addr) (s : State), s.reserved = .nop →
    (reservedForm i = some (op, m) →
        Completes i op m s (if m = .nop1 then [] else m.readTrace (s.opcode op)) (movedPast m s))
      ∧ (s.opcode5C = .fiveIdles →
          Completes (.nop5C a) 0x5C (.abs a) s [.idle, .idle, .idle, .idle, .idle] (movedPast (.abs a) s))
      ∧ (s.opcode5C = .discardedRead →
          Completes (.nop5C a) 0x5C (.abs a) s ((Mode.abs a).readTrace (s.opcode 0x5C) ++ [.idle, .idle, .idle, .idle])
            (movedPast (.abs a) s))

/-- 41_accessors R219, 30_encoding R149: under RESERVED_OPCODES = Refuse every reserved opcode is refused after its opcode
event, the only one: PC and the cycle count move on by one, nothing is sampled and nothing else is written. -/
def Obligations.ReservedOpcodesAreRefused : Prop :=
  ∀ (i : Instr) (s : State), s.reserved = .refuse → opcodeOf i ∈ reservedOpcodes →
    Refuses (exec i s) (opcodeOf i) s

/-! ### Interrupts, the wait state and reset -/

/-- 60_exceptions R459, R460, R461, R462: interrupt entry pushes PC and P with bit 4 clear, clears `pending` and
`waiting`, sets I and clears D, and goes through the NMI vector exactly when an NMI edge is latched by event 4, which it
then clears: a later edge of events 5 to 7 stays latched. Seven events; no other byte changes. -/
def Obligations.InterruptEntry : Prop :=
  ∀ s : State,
    let t := s.interruptEntry
    let status := s.p.toByte false
    let bus := frameBus s.bus s.sp s.pc status
    let nmi := s.edgeAfter 4
    let vector : Addr := if nmi then 0xFFFA else 0xFFFE
    let lo := bus.read (s.linesAt 6) vector
    let hi := bus.read (s.linesAt 7) (vector + 1)
    t.arch = { s.arch with
        pc := joinBytes hi lo, sp := s.sp - 3, bus := bus, waiting := false
        p := { s.p with i := true, d := false } }
      ∧ t.trace = [.idle, .idle] ++ frameTrace s.sp s.pc status
          ++ [.read .pointer vector lo, .read .pointer (vector + 1) hi]
      ∧ t.cycles = s.cycles + 7 ∧ t.reports = s.reports ∧ t.pending = false ∧ t.outcome = .interrupt vector
      ∧ t.nmiEdge = (((s.linesAt 5).nmi && !(s.linesAt 4).nmi) || ((s.linesAt 6).nmi && !(s.linesAt 5).nmi)
          || ((s.linesAt 7).nmi && !(s.linesAt 6).nmi))
      ∧ t.nmiPrev = s.prevAfter 7
      ∧ FrameOnly s.bus bus s.sp

/-- 41_accessors R220, 60_exceptions R466: a wait step is one idle cycle; an IRQ level, whatever I is, or an NMI edge ends
the wait and is sampled, so that an IRQ is pending only if I is clear. -/
def Obligations.WaitStepWakes : Prop :=
  ∀ s : State, s.waiting = true →
    let t := s.waitStep
    let wake := (s.linesAt 1).irq || s.edgeAfter 1
    t.arch = { s.arch with waiting := !wake } ∧ t.trace = [.idle] ∧ t.cycles = s.cycles + 1 ∧ t.outcome = .wait
      ∧ t.reports = s.reports
      ∧ t.pending = (s.pending || (wake && s.sampleAfter s.p.i 1)) ∧ t.nmiEdge = s.edgeAfter 1
      ∧ t.nmiPrev = s.prevAfter 1

/-- 70_reset R500, R501: the reset step writes PC from the reset vector, I, D, `waiting` and `stopped`, and clears the
interrupt latches before its events, whose NMI edges it keeps; A, X, Y, S, N, V, Z, C and the bus are unchanged. -/
def Obligations.ResetStep : Prop :=
  ∀ s : State,
    let t := s.resetStep
    let lo := s.byteAt 6 0xFFFC
    let hi := s.byteAt 7 0xFFFD
    t.arch = { s.arch with
        pc := joinBytes hi lo, waiting := false, stopped := false, resetRequest := false
        p := { s.p with i := true, d := false } }
      ∧ t.trace = [.idle, .idle, .idle, .idle, .idle, .read .pointer 0xFFFC lo, .read .pointer 0xFFFD hi]
      ∧ t.cycles = s.cycles + 7 ∧ t.reports = s.reports ∧ t.pending = false ∧ t.outcome = .reset
      ∧ t.nmiEdge = ((s.setNmiEdge false).setNmiPrev false).edgeAfter 7
      ∧ t.nmiPrev = s.prevAfter 7

/-- 70_reset R501: what the spec gives for the state after reset: I = 1, D = 0, `pending` clear, running, 7 cycles, the
I/O adapter 0, no dirty flag, an empty report log, and PC at the reset vector. That the NMI latches are clear too rests on the
model's choice that no NMI arrives during that reset (notes/assumptions/6.md). -/
def Obligations.ResetStateValues : Prop :=
  State.reset.p.i = true ∧ State.reset.p.d = false ∧ State.reset.pending = false ∧ State.reset.nmiEdge = false
    ∧ State.reset.nmiPrev = false ∧ State.reset.waiting = false ∧ State.reset.stopped = false
    ∧ State.reset.cycles = 7 ∧ State.reset.reports = []
    ∧ (∀ k, State.reset.bus.via.get k = 0x00) ∧ (∀ k, State.reset.bus.dirty.get k = false)
    ∧ State.reset.pc = joinBytes (State.reset.bus.read State.reset.lines 0xFFFD)
        (State.reset.bus.read State.reset.lines 0xFFFC)
end

