-- ==== Sys2Proof/Laws/Bits.lean ====
section
/-! SUPPORT. Bytes and addresses as numbers (20_memory R74). -/

namespace Sys2Proof.Machine

theorem joinBytes_toNat (hi lo : Byte) : (joinBytes hi lo).toNat = hi.toNat * 256 + lo.toNat := by
  have h : (joinBytes hi lo).toNat = hi.toNat <<< 8 ||| lo.toNat := BitVec.toNat_append hi lo
  rw [h, ← Nat.shiftLeft_add_eq_or_of_lt lo.isLt, Nat.shiftLeft_eq]

theorem loByte_toNat (a : Addr) : (loByte a).toNat = a.toNat % 256 := by
  simp [loByte]

theorem hiByte_toNat (a : Addr) : (hiByte a).toNat = a.toNat / 256 := by
  simp [hiByte, Nat.shiftRight_eq_div_pow]
  omega

theorem zext16_toNat (b : Byte) : (zext16 b).toNat = b.toNat := by
  simp [zext16]
  omega

@[simp] theorem joinBytes_hiByte_loByte (a : Addr) : joinBytes (hiByte a) (loByte a) = a := by
  apply BitVec.eq_of_toNat_eq
  rw [joinBytes_toNat, hiByte_toNat, loByte_toNat]
  omega

@[simp] theorem hiByte_joinBytes (hi lo : Byte) : hiByte (joinBytes hi lo) = hi := by
  apply BitVec.eq_of_toNat_eq
  rw [hiByte_toNat, joinBytes_toNat]
  omega

@[simp] theorem loByte_joinBytes (hi lo : Byte) : loByte (joinBytes hi lo) = lo := by
  apply BitVec.eq_of_toNat_eq
  rw [loByte_toNat, joinBytes_toNat]
  omega

/-- An offset in the range of 30_encoding R145 survives its byte. -/
theorem offsetByte_toInt {off : Int} (h : offsetFits off = true) : (offsetByte off).toInt = off := by
  simp only [offsetFits, Bool.and_eq_true, decide_eq_true_eq] at h
  rw [offsetByte, BitVec.toInt_ofInt]
  exact Int.bmod_eq_of_le (by omega) (by omega)

@[simp] theorem offsetByte_ofByte (b : Byte) : offsetByte b.toInt = b := BitVec.ofInt_toInt

/-- The offset an instruction byte stands for is in range. -/
@[simp] theorem offsetFits_ofByte (b : Byte) : offsetFits b.toInt = true := by
  have h : ∀ b : Byte, offsetFits b.toInt = true := by decide +kernel
  exact h b

/-- A stack address lies in page 1. -/
theorem stackAddr_toNat (sp : Byte) : (stackAddr sp).toNat = 0x0100 + sp.toNat := by
  have h : ∀ b : Byte, (stackAddr b).toNat = 0x0100 + b.toNat := by decide +kernel
  exact h sp

end Sys2Proof.Machine
end

