-- ==== Sys2Proof/Laws/Memory.lean ====
section
/-! SUPPORT. A memory reads what was last written, and a write keeps the canonical form. -/

namespace Sys2Proof.Machine

theorem cellsGet_filter_same (cs : List Host.Cell) (k : Nat) :
    cellsGet (cs.filter (fun c => c.1 != k)) k = unlistedByte := by
  induction cs with
  | nil => rfl
  | cons c rest ih =>
    by_cases h : c.1 = k <;> simp [h, cellsGet, ih]

theorem cellsGet_filter_other (cs : List Host.Cell) {k j : Nat} (hj : j ≠ k) :
    cellsGet (cs.filter (fun c => c.1 != k)) j = cellsGet cs j := by
  induction cs with
  | nil => rfl
  | cons c rest ih =>
    by_cases h : c.1 = k
    · have hkj : ¬ k = j := fun e => hj e.symm
      simp [h, cellsGet, ih, hkj]
    · by_cases h2 : c.1 = j <;> simp [h, h2, cellsGet, ih, hj]

theorem cellsGet_insert_same (cs : List Host.Cell) (k : Nat) (v : Byte) : cellsGet (cellsInsert cs k v) k = v := by
  induction cs with
  | nil => simp [cellsInsert, cellsGet]
  | cons c rest ih =>
    unfold cellsInsert
    split
    · simp [cellsGet]
    · split
      · simp [cellsGet]
      · have h : ¬ c.1 = k := fun e => by simp_all
        simp [cellsGet, h, ih]

theorem cellsGet_insert_other (cs : List Host.Cell) {k j : Nat} (v : Byte) (hj : j ≠ k) :
    cellsGet (cellsInsert cs k v) j = cellsGet cs j := by
  have hkj : ¬ k = j := fun e => hj e.symm
  induction cs with
  | nil => simp [cellsInsert, cellsGet, hkj]
  | cons c rest ih =>
    unfold cellsInsert
    split
    · simp [cellsGet, hkj]
    · split
      · rename_i h
        simp [cellsGet, hkj, ← h]
      · simp [cellsGet, ih]

@[simp] theorem Memory.get_set_same (m : Memory) (k : Nat) (v : Byte) : (m.set k v).get k = v := by
  unfold Memory.get Memory.set cellsSet
  split
  · rename_i h
    simp [cellsGet_filter_same, h]
  · simp [cellsGet_insert_same]

theorem Memory.get_set_other (m : Memory) {k j : Nat} (v : Byte) (hj : j ≠ k) : (m.set k v).get j = m.get j := by
  unfold Memory.get Memory.set cellsSet
  split
  · exact cellsGet_filter_other _ hj
  · exact cellsGet_insert_other _ v hj

theorem Memory.get_set (m : Memory) (k j : Nat) (v : Byte) :
    (m.set k v).get j = if j = k then v else m.get j := by
  split
  · rename_i h
    simp [h]
  · rename_i h
    exact Memory.get_set_other m v h

@[simp] theorem Memory.get_empty (k : Nat) : Memory.empty.get k = unlistedByte := rfl

theorem cellsOk_weaken {size lo lo' : Nat} {cs : List Host.Cell} (h : cellsOk size lo cs = true) (hle : lo' ≤ lo) :
    cellsOk size lo' cs = true := by
  cases cs with
  | nil => rfl
  | cons c rest =>
    simp only [cellsOk, Bool.and_eq_true, decide_eq_true_eq] at h ⊢
    exact ⟨⟨⟨Nat.le_trans hle h.1.1.1, h.1.1.2⟩, h.1.2⟩, h.2⟩

theorem cellsOk_filter {size : Nat} (k : Nat) (cs : List Host.Cell) :
    ∀ {lo : Nat}, cellsOk size lo cs = true → cellsOk size lo (cs.filter (fun c => c.1 != k)) = true := by
  induction cs with
  | nil => intro lo h; exact h
  | cons c rest ih =>
    intro lo h
    simp only [cellsOk, Bool.and_eq_true, decide_eq_true_eq] at h
    by_cases hk : c.1 = k
    · simpa [hk] using cellsOk_weaken (ih h.2) (by omega)
    · have hk' : (c.1 != k) = true := by simpa using hk
      simp only [List.filter_cons, hk', if_true, cellsOk, Bool.and_eq_true, decide_eq_true_eq]
      exact ⟨h.1, ih h.2⟩

theorem cellsOk_insert {size k : Nat} {v : Byte} (hk : k < size) (hv : v ≠ unlistedByte) (cs : List Host.Cell) :
    ∀ {lo : Nat}, lo ≤ k → cellsOk size lo cs = true → cellsOk size lo (cellsInsert cs k v) = true := by
  induction cs with
  | nil =>
    intro lo hlo _
    simp [cellsInsert, cellsOk, hlo, hk, hv]
  | cons c rest ih =>
    intro lo hlo h
    simp only [cellsOk, Bool.and_eq_true, decide_eq_true_eq] at h
    unfold cellsInsert
    split
    · rename_i hlt
      simp only [cellsOk, Bool.and_eq_true, decide_eq_true_eq]
      exact ⟨⟨⟨hlo, hk⟩, hv⟩, ⟨⟨⟨by omega, h.1.1.2⟩, h.1.2⟩, h.2⟩⟩
    · split
      · rename_i heq
        simp only [cellsOk, Bool.and_eq_true, decide_eq_true_eq]
        exact ⟨⟨⟨hlo, hk⟩, hv⟩, heq ▸ h.2⟩
      · simp only [cellsOk, Bool.and_eq_true, decide_eq_true_eq]
        exact ⟨h.1, ih (by omega) h.2⟩

/-- A write below the size keeps the canonical form. -/
theorem Memory.wf_set {size k : Nat} {m : Memory} {v : Byte} (h : m.wf size = true) (hk : k < size) :
    (m.set k v).wf size = true := by
  unfold Memory.wf Memory.set cellsSet at *
  split
  · exact cellsOk_filter k _ h
  · rename_i hv
    exact cellsOk_insert hk hv _ (Nat.zero_le _) h

@[simp] theorem Memory.wf_empty (size : Nat) : Memory.empty.wf size = true := rfl

theorem cellsOk_cellsOfBytes (bytes : List Byte) :
    ∀ (k size : Nat), k + bytes.length ≤ size → cellsOk size k (cellsOfBytes k bytes) = true := by
  induction bytes with
  | nil => intros; rfl
  | cons b rest ih =>
    intro k size h
    simp only [List.length_cons] at h
    unfold cellsOfBytes
    split
    · exact cellsOk_weaken (ih (k + 1) size (by omega)) (by omega)
    · rename_i hb
      simp only [cellsOk, Bool.and_eq_true, decide_eq_true_eq]
      exact ⟨⟨⟨Nat.le_refl _, by omega⟩, hb⟩, ih (k + 1) size (by omega)⟩

/-- The memory of a byte list has the canonical form. -/
theorem Memory.wf_ofBytes (bytes : List Byte) : (Memory.ofBytes bytes).wf bytes.length = true :=
  cellsOk_cellsOfBytes bytes 0 bytes.length (by omega)

theorem cellsGet_cellsOfBytes_below (bytes : List Byte) :
    ∀ (k j : Nat), j < k → cellsGet (cellsOfBytes k bytes) j = unlistedByte := by
  induction bytes with
  | nil => intros; rfl
  | cons b rest ih =>
    intro k j h
    have hkj : ¬ k = j := by omega
    unfold cellsOfBytes
    split
    · exact ih (k + 1) j (by omega)
    · simp [cellsGet, hkj, ih (k + 1) j (by omega)]

theorem cellsGet_cellsOfBytes (bytes : List Byte) :
    ∀ (k n : Nat), cellsGet (cellsOfBytes k bytes) (k + n) = bytes.getD n unlistedByte := by
  induction bytes with
  | nil => intros; rfl
  | cons b rest ih =>
    intro k n
    cases n with
    | zero =>
      unfold cellsOfBytes
      split
      · rename_i h
        simpa [h] using cellsGet_cellsOfBytes_below rest (k + 1) k (by omega)
      · simp [cellsGet]
    | succ n =>
      have hk : ¬ k = k + (n + 1) := by omega
      have he : k + (n + 1) = k + 1 + n := by omega
      unfold cellsOfBytes
      split
      · rw [he, ih (k + 1) n]; simp
      · simp only [cellsGet, if_neg hk]; rw [he, ih (k + 1) n]; simp

/-- The memory of a byte list reads as the list. -/
theorem Memory.get_ofBytes (bytes : List Byte) (n : Nat) :
    (Memory.ofBytes bytes).get n = bytes.getD n unlistedByte := by
  have h := cellsGet_cellsOfBytes bytes 0 n
  rw [Nat.zero_add] at h
  exact h

end Sys2Proof.Machine
end

