-- ==== Sys2Proof/Laws/Bus.lean ====
section
/-! SUPPORT. What a bus write changes: one physical byte, the shift register, one dirty flag; never the cartridge, the
parameters, the quadrant or the class of an address. It keeps every memory's canonical form. -/

namespace Sys2Proof.Machine

/-! ### `poke` -/

@[simp] theorem Bus.poke_map (b : Bus) (l : Loc) (v : Byte) : (b.poke l v).map = b.map := by cases l <;> rfl
@[simp] theorem Bus.poke_quadrant (b : Bus) (l : Loc) (v : Byte) : (b.poke l v).quadrant = b.quadrant := by
  cases l <;> rfl
@[simp] theorem Bus.poke_dirty (b : Bus) (l : Loc) (v : Byte) : (b.poke l v).dirty = b.dirty := by cases l <;> rfl
@[simp] theorem Bus.poke_cartSize (b : Bus) (l : Loc) (v : Byte) : (b.poke l v).cart.size = b.cart.size := by
  cases l <;> rfl

@[simp] theorem Bus.peek_poke_same (b : Bus) (l : Loc) (v : Byte) : (b.poke l v).peek l = v := by
  cases l <;> simp [Bus.poke, Bus.peek, Vector.get_eq_getElem]

theorem Bus.peek_poke_other (b : Bus) {l m : Loc} (v : Byte) (h : m ≠ l) : (b.poke l v).peek m = b.peek m := by
  cases l <;> cases m <;>
    first
      | rfl
      | (have h' := fun e => h (congrArg _ e)
         simp only [Bus.poke, Bus.peek, Memory.get_set_other _ v h'])
      | (rename_i k j
         have h' : k.val ≠ j.val := fun e => h (congrArg _ (Fin.ext e.symm))
         simp [Bus.poke, Bus.peek, Vector.get_eq_getElem, h'])

/-! ### `locate` -/

/-- Every address shows RAM, a register, the audio RAM, the video window, the cartridge or nothing, by its value. -/
theorem Bus.locate_cases (b : Bus) (a : Addr) :
    (a.toNat ≤ 0x1FFF ∧ b.locate a = some (.ram (b.ramBank.toNat * 0x2000 + a.toNat)))
      ∨ (∃ k : Fin 10, a.toNat = 0x2000 + k.val ∧ b.locate a = some (.sysctl k))
      ∨ (∃ k : Fin 16, a.toNat = 0x2800 + k.val ∧ b.locate a = some (.via k))
      ∨ (0x3000 ≤ a.toNat ∧ a.toNat ≤ 0x3FFF ∧ b.locate a = some (.aram (a.toNat - 0x3000)))
      ∨ (0x4000 ≤ a.toNat ∧ a.toNat ≤ 0x7FFF ∧ b.locate a = some (b.locateVideo (a.toNat - 0x4000)))
      ∨ (0x8000 ≤ a.toNat ∧ b.locate a = some (.rom (b.cart.size.offset b.cartBank (a.toNat - 0x8000))))
      ∨ (((0x200A ≤ a.toNat ∧ a.toNat ≤ 0x27FF) ∨ (0x2810 ≤ a.toNat ∧ a.toNat ≤ 0x2FFF)) ∧ b.locate a = none) := by
  unfold Bus.locate
  simp only
  split
  · exact .inl ⟨by assumption, rfl⟩
  split
  · rename_i h
    exact .inr (.inl ⟨⟨a.toNat - 0x2000, by omega⟩, by simp only; omega, rfl⟩)
  split
  · rename_i h
    exact .inr (.inr (.inl ⟨⟨a.toNat - 0x2800, by omega⟩, by simp only; omega, rfl⟩))
  split
  · rename_i h
    exact .inr (.inr (.inr (.inl ⟨h.1, h.2, rfl⟩)))
  split
  · rename_i h
    exact .inr (.inr (.inr (.inr (.inl ⟨h.1, h.2, rfl⟩))))
  split
  · rename_i h
    exact .inr (.inr (.inr (.inr (.inr (.inl ⟨h, rfl⟩)))))
  · exact .inr (.inr (.inr (.inr (.inr (.inr ⟨by omega, rfl⟩)))))

/-- Each kind of video location, by the window mode. -/
theorem Bus.locateVideo_cases (b : Bus) (o : Nat) :
    (b.windowMode = 0 ∧ b.locateVideo o = .fb (b.fbSelect.toNat * 0x4000 + o))
      ∨ (b.windowMode = 2 ∧ b.locateVideo o = .vram (b.vramBank.toNat * 0x10000 + b.vramIndex o))
      ∨ (b.windowMode ≠ 0 ∧ b.windowMode ≠ 2 ∧ b.locateVideo o = .blit (o % 2 ^ b.map.blitIndexBits.val)) := by
  unfold Bus.locateVideo
  split
  · exact .inl ⟨by assumption, rfl⟩
  split
  · exact .inr (.inl ⟨by assumption, rfl⟩)
  · exact .inr (.inr ⟨by assumption, by assumption, rfl⟩)

/-- The decode looks at the system-control registers, the quadrant, the cartridge variant and bank, and the parameters
only. -/
theorem Bus.locate_congr {b c : Bus} (a : Addr) (h1 : c.sysctl = b.sysctl) (h2 : c.quadrant = b.quadrant)
    (h3 : c.cart.size = b.cart.size) (h4 : c.cartBank = b.cartBank) (h5 : c.map = b.map) : c.locate a = b.locate a := by
  have hb : c.banking = b.banking := by unfold Bus.banking; rw [h1, h5]
  have hd : c.dmaFlags = b.dmaFlags := by unfold Bus.dmaFlags; rw [h1, h5]
  have hr : c.ramBank = b.ramBank := by unfold Bus.ramBank; rw [hb, h5]
  have hv (o : Nat) : c.locateVideo o = b.locateVideo o := by
    unfold Bus.locateVideo Bus.windowMode Bus.fbSelect Bus.vramBank Bus.vramIndex
    rw [hb, hd, h2, h5]
  unfold Bus.locate
  rw [hr, h3, h4]
  simp only [hv]

/-! ### `write`: what never changes -/

theorem Bus.viaWrite_eq (b : Bus) (k : Fin 16) (v : Byte) :
    ∃ sr bank, b.viaWrite k v = { b.poke (.via k) v with sr := sr, cartBank := bank } := by
  unfold Bus.viaWrite
  simp only
  split
  · exact ⟨_, _, rfl⟩
  · exact ⟨b.sr, b.cartBank, rfl⟩

/-- What a bus write does to the bus: nothing, one byte, one register with the shift register, or one byte with its
dirty flag. -/
theorem Bus.write_cases (b : Bus) (a : Addr) (v : Byte) :
    (b.write a v = b ∧ (b.locate a = none ∨ ∃ k, b.locate a = some (.rom k)))
      ∨ (∃ k, b.locate a = some (.via k) ∧ b.write a v = b.viaWrite k v)
      ∨ (∃ k, b.locate a = some (.vram k) ∧ b.write a v = b.vramWrite k v)
      ∨ (∃ l, b.locate a = some l ∧ (∀ k, l ≠ .rom k) ∧ (∀ k, l ≠ .via k) ∧ (∀ k, l ≠ .vram k)
          ∧ b.write a v = b.poke l v) := by
  unfold Bus.write
  split
  · exact .inr (.inl ⟨_, by assumption, rfl⟩)
  · exact .inr (.inr (.inl ⟨_, by assumption, rfl⟩))
  · exact .inl ⟨rfl, .inr ⟨_, by assumption⟩⟩
  · rename_i l h1 h2 h3 h4
    exact .inr (.inr (.inr ⟨l, h4, h3, h1, h2, rfl⟩))
  · exact .inl ⟨rfl, .inl (by assumption)⟩

@[simp] theorem Bus.write_map (b : Bus) (a : Addr) (v : Byte) : (b.write a v).map = b.map := by
  obtain ⟨h, -⟩ | ⟨k, -, h⟩ | ⟨k, -, h⟩ | ⟨l, -, -, -, -, h⟩ := b.write_cases a v
  · rw [h]
  · obtain ⟨_, _, h'⟩ := b.viaWrite_eq k v
    rw [h, h']; rfl
  · rw [h]; rfl
  · rw [h]; simp

@[simp] theorem Bus.write_quadrant (b : Bus) (a : Addr) (v : Byte) : (b.write a v).quadrant = b.quadrant := by
  obtain ⟨h, -⟩ | ⟨k, -, h⟩ | ⟨k, -, h⟩ | ⟨l, -, -, -, -, h⟩ := b.write_cases a v
  · rw [h]
  · obtain ⟨_, _, h'⟩ := b.viaWrite_eq k v
    rw [h, h']; rfl
  · rw [h]; rfl
  · rw [h]; simp

@[simp] theorem Bus.write_cart (b : Bus) (a : Addr) (v : Byte) : (b.write a v).cart = b.cart := by
  obtain ⟨h, -⟩ | ⟨k, -, h⟩ | ⟨k, -, h⟩ | ⟨l, -, hr, -, -, h⟩ := b.write_cases a v
  · rw [h]
  · obtain ⟨_, _, h'⟩ := b.viaWrite_eq k v
    rw [h, h']; rfl
  · rw [h]; rfl
  · rw [h]
    cases l with
    | rom k => exact absurd rfl (hr k)
    | _ => rfl

/-- A write changes the byte behind its address, unless it is cartridge, and no other physical byte. -/
theorem Bus.write_storedAt (b : Bus) (a : Addr) (v : Byte) : StoredAt b (b.write a v) a v := by
  obtain ⟨h, hl⟩ | ⟨k, hl, h⟩ | ⟨k, hl, h⟩ | ⟨l, hl, hr, -, -, h⟩ := b.write_cases a v
  · rw [h]
    refine ⟨?_, fun _ _ => rfl, fun _ => rfl⟩
    intro l e hr
    obtain hn | ⟨k, hk⟩ := hl
    · simp [hn] at e
    · exact absurd (by simpa [hk] using e.symm) (hr k)
  · obtain ⟨_, _, h'⟩ := b.viaWrite_eq k v
    rw [h, h']
    refine ⟨?_, ?_, fun _ => rfl⟩
    · intro l e _
      obtain rfl : l = .via k := by simpa [hl] using e.symm
      exact Bus.peek_poke_same b (.via k) v
    · intro m hm
      have hm' : m ≠ .via k := fun e => hm (e ▸ hl)
      have := Bus.peek_poke_other b v hm'
      cases m <;> exact this
  · rw [h]
    refine ⟨?_, ?_, fun _ => rfl⟩
    · intro l e _
      obtain rfl : l = .vram k := by simpa [hl] using e.symm
      exact Bus.peek_poke_same b (.vram k) v
    · intro m hm
      have hm' : m ≠ .vram k := fun e => hm (e ▸ hl)
      have := Bus.peek_poke_other b v hm'
      cases m <;> exact this
  · rw [h]
    refine ⟨?_, ?_, ?_⟩
    · intro m e _
      obtain rfl : m = l := by simpa [hl] using e.symm
      exact Bus.peek_poke_same b m v
    · intro m hm
      exact Bus.peek_poke_other b v (fun e => hm (e ▸ hl))
    · intro k
      exact Bus.peek_poke_other b v (fun e => hr k e.symm)

/-- Two addresses of one class, for the classes no write can move: the address read and written by a read-modify-write
still shows the same location after the rewrite. -/
theorem Bus.locate_write_same (b : Bus) (a : Addr) (v : Byte) : (b.write a v).locate a = b.locate a := by
  obtain ⟨h, -⟩ | ⟨k, hl, h⟩ | ⟨k, hl, h⟩ | ⟨l, hl, hr, hv, -, h⟩ := b.write_cases a v
  · rw [h]
  · rw [h]
    obtain ⟨_, _, h'⟩ := b.viaWrite_eq k v
    rw [h']
    obtain ⟨_, e⟩ | ⟨j, _, e⟩ | ⟨j, hj, e⟩ | ⟨_, _, e⟩ | ⟨_, _, e⟩ | ⟨_, e⟩ | ⟨_, e⟩ := b.locate_cases a
    · simp [e] at hl
    · simp [e] at hl
    · obtain ⟨h0, _⟩ | ⟨i, h0, _⟩ | ⟨i, h0, e'⟩ | ⟨h0, h1, _⟩ | ⟨h0, h1, _⟩ | ⟨h0, _⟩ | ⟨h0, _⟩ :=
        ({ b.poke (.via k) v with sr := _, cartBank := _ } : Bus).locate_cases a
      all_goals try omega
      rw [e', e]
      have : i = j := Fin.ext (by omega)
      rw [this]
    · simp [e] at hl
    · rw [e] at hl
      obtain ⟨_, e2⟩ | ⟨_, e2⟩ | ⟨_, _, e2⟩ := b.locateVideo_cases (a.toNat - 0x4000) <;> simp [e2] at hl
    · simp [e] at hl
    · simp [e] at hl
  · rw [h]
    exact Bus.locate_congr a rfl rfl rfl rfl rfl
  · rw [h]
    cases l with
    | sysctl j =>
      obtain ⟨_, e⟩ | ⟨i, hi, e⟩ | ⟨i, _, e⟩ | ⟨_, _, e⟩ | ⟨_, _, e⟩ | ⟨_, e⟩ | ⟨_, e⟩ := b.locate_cases a
      · simp [e] at hl
      · obtain ⟨h0, _⟩ | ⟨i', h0, e'⟩ | ⟨i', h0, _⟩ | ⟨h0, h1, _⟩ | ⟨h0, h1, _⟩ | ⟨h0, _⟩ | ⟨h0, _⟩ :=
          (b.poke (.sysctl j) v).locate_cases a
        all_goals try omega
        rw [e', e]
        have : i' = i := Fin.ext (by omega)
        rw [this]
      · simp [e] at hl
      · simp [e] at hl
      · rw [e] at hl
        obtain ⟨_, e2⟩ | ⟨_, e2⟩ | ⟨_, _, e2⟩ := b.locateVideo_cases (a.toNat - 0x4000) <;> simp [e2] at hl
      · simp [e] at hl
      · simp [e] at hl
    | via j => exact absurd rfl (hv j)
    | rom j => exact absurd rfl (hr j)
    | ram j => exact Bus.locate_congr a rfl rfl rfl rfl rfl
    | aram j => exact Bus.locate_congr a rfl rfl rfl rfl rfl
    | fb j => exact Bus.locate_congr a rfl rfl rfl rfl rfl
    | vram j => exact Bus.locate_congr a rfl rfl rfl rfl rfl
    | blit j => exact Bus.locate_congr a rfl rfl rfl rfl rfl

/-! ### Reports depend on the address and the parameters only -/

theorem Bus.readReport_congr {b c : Bus} (h : c.map = b.map) (a : Addr) : c.readReport a = b.readReport a := by
  unfold Bus.readReport
  obtain ⟨h0, e⟩ | ⟨k, h0, e⟩ | ⟨k, h0, e⟩ | ⟨h0, h1, e⟩ | ⟨h0, h1, e⟩ | ⟨h0, e⟩ | ⟨h0, e⟩ := b.locate_cases a <;>
  obtain ⟨g0, f⟩ | ⟨j, g0, f⟩ | ⟨j, g0, f⟩ | ⟨g0, g1, f⟩ | ⟨g0, g1, f⟩ | ⟨g0, f⟩ | ⟨g0, f⟩ := c.locate_cases a <;>
  try (exfalso; omega)
  · rw [e, f]
  · obtain rfl : j = k := Fin.ext (by omega)
    rw [e, f, h]
  · rw [e, f]
  · rw [e, f]
  · rw [e, f]
    obtain ⟨_, e2⟩ | ⟨_, e2⟩ | ⟨_, _, e2⟩ := b.locateVideo_cases (a.toNat - 0x4000) <;>
    obtain ⟨_, f2⟩ | ⟨_, f2⟩ | ⟨_, _, f2⟩ := c.locateVideo_cases (a.toNat - 0x4000) <;> rw [e2, f2]
  · rw [e, f]
  · rw [e, f]

theorem Bus.writeReport_congr (b c : Bus) (a : Addr) (v : Byte) : c.writeReport a v = b.writeReport a v := by
  unfold Bus.writeReport
  obtain ⟨h0, e⟩ | ⟨k, h0, e⟩ | ⟨k, h0, e⟩ | ⟨h0, h1, e⟩ | ⟨h0, h1, e⟩ | ⟨h0, e⟩ | ⟨h0, e⟩ := b.locate_cases a <;>
  obtain ⟨g0, f⟩ | ⟨j, g0, f⟩ | ⟨j, g0, f⟩ | ⟨g0, g1, f⟩ | ⟨g0, g1, f⟩ | ⟨g0, f⟩ | ⟨g0, f⟩ := c.locate_cases a <;>
  try (exfalso; omega)
  · rw [e, f]
  · rw [e, f]
  · rw [e, f]
  · rw [e, f]
  · rw [e, f]
    obtain ⟨_, e2⟩ | ⟨_, e2⟩ | ⟨_, _, e2⟩ := b.locateVideo_cases (a.toNat - 0x4000) <;>
    obtain ⟨_, f2⟩ | ⟨_, f2⟩ | ⟨_, _, f2⟩ := c.locateVideo_cases (a.toNat - 0x4000) <;> rw [e2, f2]
  · rw [e, f]
  · rw [e, f]

theorem eventReports_congr {b c : Bus} (h : c.map = b.map) : eventReports c = eventReports b := by
  funext e
  cases e with
  | read k a v => exact Bus.readReport_congr h a
  | write k a v => exact Bus.writeReport_congr b c a v
  | idle => rfl

theorem reportsOf_congr {b c : Bus} (h : c.map = b.map) (evs : List Event) : reportsOf c evs = reportsOf b evs := by
  unfold reportsOf
  rw [eventReports_congr h]

theorem reportsOf_append (b : Bus) (e1 e2 : List Event) : reportsOf b (e1 ++ e2) = reportsOf b e1 ++ reportsOf b e2 := by
  simp [reportsOf]

/-! ### The canonical form -/

/-- The keys an address reaches lie in their memories. -/
def Loc.inBounds (b : Bus) (l : Loc) : Prop :=
  match l with
  | .ram k => k < 0x8000
  | .aram k => k < 0x1000
  | .fb k => k < 0x8000
  | .vram k => k < 0x80000
  | .blit k => k < 2 ^ b.map.blitIndexBits.val
  | .rom k => k < b.cart.size.bytes
  | .sysctl _ => True
  | .via _ => True

theorem quadrantShift_le (q : Bool) : quadrantShift q ≤ 128 := by cases q <;> decide

theorem Bus.vramIndex_lt (b : Bus) {o : Nat} (_ : o < 0x4000) : b.vramIndex o < 0x10000 := by
  unfold Bus.vramIndex
  have h1 := quadrantShift_le (b.quadrant.getLsbD b.map.quadBottomBit.val)
  have h2 := quadrantShift_le (b.quadrant.getLsbD b.map.quadRightBit.val)
  omega

theorem CartSize.offset_lt (size : CartSize) (bank : BitVec 7) {c : Nat} (_ : c < 0x8000) :
    size.offset bank c < size.bytes := by
  have := bank.isLt
  cases size <;> simp only [CartSize.offset, CartSize.bytes] <;> first | omega | (split <;> omega)

/-- The decode never leaves a memory: "no out-of-range bank is representable" (10_state R44). -/
theorem Bus.locate_inBounds (b : Bus) {a : Addr} {l : Loc} (h : b.locate a = some l) : l.inBounds b := by
  obtain ⟨h0, e⟩ | ⟨k, h0, e⟩ | ⟨k, h0, e⟩ | ⟨h0, h1, e⟩ | ⟨h0, h1, e⟩ | ⟨h0, e⟩ | ⟨h0, e⟩ := b.locate_cases a
  · obtain rfl : _ = l := by simpa [e] using h
    have := b.ramBank.isLt
    simp only [Loc.inBounds]; omega
  · obtain rfl : _ = l := by simpa [e] using h
    trivial
  · obtain rfl : _ = l := by simpa [e] using h
    trivial
  · obtain rfl : _ = l := by simpa [e] using h
    simp only [Loc.inBounds]; omega
  · rw [e] at h
    obtain ⟨_, e2⟩ | ⟨_, e2⟩ | ⟨_, _, e2⟩ := b.locateVideo_cases (a.toNat - 0x4000)
    · obtain rfl : _ = l := by simpa [e2] using h
      have := b.fbSelect.isLt
      simp only [Loc.inBounds]; omega
    · obtain rfl : _ = l := by simpa [e2] using h
      have := b.vramBank.isLt
      have := b.vramIndex_lt (o := a.toNat - 0x4000) (by omega)
      simp only [Loc.inBounds]; omega
    · obtain rfl : _ = l := by simpa [e2] using h
      exact Nat.mod_lt _ (Nat.two_pow_pos _)
  · obtain rfl : _ = l := by simpa [e] using h
    have := a.isLt
    exact CartSize.offset_lt _ _ (by omega)
  · simp [e] at h

theorem Bus.wf_iff (b : Bus) :
    b.wf = true ↔ b.ram.wf 0x8000 = true ∧ b.aram.wf 0x1000 = true ∧ b.fb.wf 0x8000 = true ∧ b.vram.wf 0x80000 = true
      ∧ b.blit.wf (2 ^ b.map.blitIndexBits.val) = true ∧ b.cart.data.wf b.cart.size.bytes = true := by
  simp only [Bus.wf, Bool.and_eq_true, and_assoc]

/-- Replacing a byte inside its memory keeps the canonical form. -/
theorem Bus.wf_poke {b : Bus} (h : b.wf = true) {l : Loc} (hl : l.inBounds b) (v : Byte) : (b.poke l v).wf = true := by
  rw [Bus.wf_iff] at h ⊢
  obtain ⟨h1, h2, h3, h4, h5, h6⟩ := h
  cases l with
  | ram k => exact ⟨Memory.wf_set h1 hl, h2, h3, h4, h5, h6⟩
  | sysctl k => exact ⟨h1, h2, h3, h4, h5, h6⟩
  | via k => exact ⟨h1, h2, h3, h4, h5, h6⟩
  | aram k => exact ⟨h1, Memory.wf_set h2 hl, h3, h4, h5, h6⟩
  | fb k => exact ⟨h1, h2, Memory.wf_set h3 hl, h4, h5, h6⟩
  | vram k => exact ⟨h1, h2, h3, Memory.wf_set h4 hl, h5, h6⟩
  | blit k => exact ⟨h1, h2, h3, h4, Memory.wf_set h5 hl, h6⟩
  | rom k => exact ⟨h1, h2, h3, h4, h5, Memory.wf_set h6 hl⟩

/-- A bus write keeps the canonical form. -/
theorem Bus.wf_write {b : Bus} (h : b.wf = true) (a : Addr) (v : Byte) : (b.write a v).wf = true := by
  obtain ⟨e, -⟩ | ⟨k, -, e⟩ | ⟨k, hl, e⟩ | ⟨l, hl, -, -, -, e⟩ := b.write_cases a v
  · rw [e]; exact h
  · obtain ⟨_, _, e'⟩ := b.viaWrite_eq k v
    rw [e, e']; exact h
  · rw [e]; exact Bus.wf_poke h (b.locate_inBounds hl) v
  · rw [e]; exact Bus.wf_poke h (b.locate_inBounds hl) v

end Sys2Proof.Machine
end

