-- ==== Sys2Proof/Laws/State.lean ====
section
/-! SUPPORT. What each update of the state does to each field, by `rfl`. -/

namespace Sys2Proof.Machine

/-! `setA` -/
@[simp] theorem State.setA_a (s : State) (v : Byte) : (s.setA v).a = v := rfl
@[simp] theorem State.setA_x (s : State) (v : Byte) : (s.setA v).x = s.x := rfl
@[simp] theorem State.setA_y (s : State) (v : Byte) : (s.setA v).y = s.y := rfl
@[simp] theorem State.setA_sp (s : State) (v : Byte) : (s.setA v).sp = s.sp := rfl
@[simp] theorem State.setA_pc (s : State) (v : Byte) : (s.setA v).pc = s.pc := rfl
@[simp] theorem State.setA_p (s : State) (v : Byte) : (s.setA v).p = s.p := rfl
@[simp] theorem State.setA_cycles (s : State) (v : Byte) : (s.setA v).cycles = s.cycles := rfl
@[simp] theorem State.setA_pending (s : State) (v : Byte) : (s.setA v).pending = s.pending := rfl
@[simp] theorem State.setA_nmiPrev (s : State) (v : Byte) : (s.setA v).nmiPrev = s.nmiPrev := rfl
@[simp] theorem State.setA_nmiEdge (s : State) (v : Byte) : (s.setA v).nmiEdge = s.nmiEdge := rfl
@[simp] theorem State.setA_waiting (s : State) (v : Byte) : (s.setA v).waiting = s.waiting := rfl
@[simp] theorem State.setA_stopped (s : State) (v : Byte) : (s.setA v).stopped = s.stopped := rfl
@[simp] theorem State.setA_bus (s : State) (v : Byte) : (s.setA v).bus = s.bus := rfl
@[simp] theorem State.setA_reserved (s : State) (v : Byte) : (s.setA v).reserved = s.reserved := rfl
@[simp] theorem State.setA_opcode5C (s : State) (v : Byte) : (s.setA v).opcode5C = s.opcode5C := rfl
@[simp] theorem State.setA_lines (s : State) (v : Byte) : (s.setA v).lines = s.lines := rfl
@[simp] theorem State.setA_inputs (s : State) (v : Byte) : (s.setA v).inputs = s.inputs := rfl
@[simp] theorem State.setA_agents (s : State) (v : Byte) : (s.setA v).agents = s.agents := rfl
@[simp] theorem State.setA_resetRequest (s : State) (v : Byte) : (s.setA v).resetRequest = s.resetRequest := rfl
@[simp] theorem State.setA_trace (s : State) (v : Byte) : (s.setA v).trace = s.trace := rfl
@[simp] theorem State.setA_samples (s : State) (v : Byte) : (s.setA v).samples = s.samples := rfl
@[simp] theorem State.setA_reports (s : State) (v : Byte) : (s.setA v).reports = s.reports := rfl
@[simp] theorem State.setA_outcome (s : State) (v : Byte) : (s.setA v).outcome = s.outcome := rfl
@[simp] theorem State.setA_linesAt (s : State) (v : Byte) (k : Nat) : (s.setA v).linesAt k = s.linesAt k := rfl

/-! `setX` -/
@[simp] theorem State.setX_a (s : State) (v : Byte) : (s.setX v).a = s.a := rfl
@[simp] theorem State.setX_x (s : State) (v : Byte) : (s.setX v).x = v := rfl
@[simp] theorem State.setX_y (s : State) (v : Byte) : (s.setX v).y = s.y := rfl
@[simp] theorem State.setX_sp (s : State) (v : Byte) : (s.setX v).sp = s.sp := rfl
@[simp] theorem State.setX_pc (s : State) (v : Byte) : (s.setX v).pc = s.pc := rfl
@[simp] theorem State.setX_p (s : State) (v : Byte) : (s.setX v).p = s.p := rfl
@[simp] theorem State.setX_cycles (s : State) (v : Byte) : (s.setX v).cycles = s.cycles := rfl
@[simp] theorem State.setX_pending (s : State) (v : Byte) : (s.setX v).pending = s.pending := rfl
@[simp] theorem State.setX_nmiPrev (s : State) (v : Byte) : (s.setX v).nmiPrev = s.nmiPrev := rfl
@[simp] theorem State.setX_nmiEdge (s : State) (v : Byte) : (s.setX v).nmiEdge = s.nmiEdge := rfl
@[simp] theorem State.setX_waiting (s : State) (v : Byte) : (s.setX v).waiting = s.waiting := rfl
@[simp] theorem State.setX_stopped (s : State) (v : Byte) : (s.setX v).stopped = s.stopped := rfl
@[simp] theorem State.setX_bus (s : State) (v : Byte) : (s.setX v).bus = s.bus := rfl
@[simp] theorem State.setX_reserved (s : State) (v : Byte) : (s.setX v).reserved = s.reserved := rfl
@[simp] theorem State.setX_opcode5C (s : State) (v : Byte) : (s.setX v).opcode5C = s.opcode5C := rfl
@[simp] theorem State.setX_lines (s : State) (v : Byte) : (s.setX v).lines = s.lines := rfl
@[simp] theorem State.setX_inputs (s : State) (v : Byte) : (s.setX v).inputs = s.inputs := rfl
@[simp] theorem State.setX_agents (s : State) (v : Byte) : (s.setX v).agents = s.agents := rfl
@[simp] theorem State.setX_resetRequest (s : State) (v : Byte) : (s.setX v).resetRequest = s.resetRequest := rfl
@[simp] theorem State.setX_trace (s : State) (v : Byte) : (s.setX v).trace = s.trace := rfl
@[simp] theorem State.setX_samples (s : State) (v : Byte) : (s.setX v).samples = s.samples := rfl
@[simp] theorem State.setX_reports (s : State) (v : Byte) : (s.setX v).reports = s.reports := rfl
@[simp] theorem State.setX_outcome (s : State) (v : Byte) : (s.setX v).outcome = s.outcome := rfl
@[simp] theorem State.setX_linesAt (s : State) (v : Byte) (k : Nat) : (s.setX v).linesAt k = s.linesAt k := rfl

/-! `setY` -/
@[simp] theorem State.setY_a (s : State) (v : Byte) : (s.setY v).a = s.a := rfl
@[simp] theorem State.setY_x (s : State) (v : Byte) : (s.setY v).x = s.x := rfl
@[simp] theorem State.setY_y (s : State) (v : Byte) : (s.setY v).y = v := rfl
@[simp] theorem State.setY_sp (s : State) (v : Byte) : (s.setY v).sp = s.sp := rfl
@[simp] theorem State.setY_pc (s : State) (v : Byte) : (s.setY v).pc = s.pc := rfl
@[simp] theorem State.setY_p (s : State) (v : Byte) : (s.setY v).p = s.p := rfl
@[simp] theorem State.setY_cycles (s : State) (v : Byte) : (s.setY v).cycles = s.cycles := rfl
@[simp] theorem State.setY_pending (s : State) (v : Byte) : (s.setY v).pending = s.pending := rfl
@[simp] theorem State.setY_nmiPrev (s : State) (v : Byte) : (s.setY v).nmiPrev = s.nmiPrev := rfl
@[simp] theorem State.setY_nmiEdge (s : State) (v : Byte) : (s.setY v).nmiEdge = s.nmiEdge := rfl
@[simp] theorem State.setY_waiting (s : State) (v : Byte) : (s.setY v).waiting = s.waiting := rfl
@[simp] theorem State.setY_stopped (s : State) (v : Byte) : (s.setY v).stopped = s.stopped := rfl
@[simp] theorem State.setY_bus (s : State) (v : Byte) : (s.setY v).bus = s.bus := rfl
@[simp] theorem State.setY_reserved (s : State) (v : Byte) : (s.setY v).reserved = s.reserved := rfl
@[simp] theorem State.setY_opcode5C (s : State) (v : Byte) : (s.setY v).opcode5C = s.opcode5C := rfl
@[simp] theorem State.setY_lines (s : State) (v : Byte) : (s.setY v).lines = s.lines := rfl
@[simp] theorem State.setY_inputs (s : State) (v : Byte) : (s.setY v).inputs = s.inputs := rfl
@[simp] theorem State.setY_agents (s : State) (v : Byte) : (s.setY v).agents = s.agents := rfl
@[simp] theorem State.setY_resetRequest (s : State) (v : Byte) : (s.setY v).resetRequest = s.resetRequest := rfl
@[simp] theorem State.setY_trace (s : State) (v : Byte) : (s.setY v).trace = s.trace := rfl
@[simp] theorem State.setY_samples (s : State) (v : Byte) : (s.setY v).samples = s.samples := rfl
@[simp] theorem State.setY_reports (s : State) (v : Byte) : (s.setY v).reports = s.reports := rfl
@[simp] theorem State.setY_outcome (s : State) (v : Byte) : (s.setY v).outcome = s.outcome := rfl
@[simp] theorem State.setY_linesAt (s : State) (v : Byte) (k : Nat) : (s.setY v).linesAt k = s.linesAt k := rfl

/-! `setSp` -/
@[simp] theorem State.setSp_a (s : State) (v : Byte) : (s.setSp v).a = s.a := rfl
@[simp] theorem State.setSp_x (s : State) (v : Byte) : (s.setSp v).x = s.x := rfl
@[simp] theorem State.setSp_y (s : State) (v : Byte) : (s.setSp v).y = s.y := rfl
@[simp] theorem State.setSp_sp (s : State) (v : Byte) : (s.setSp v).sp = v := rfl
@[simp] theorem State.setSp_pc (s : State) (v : Byte) : (s.setSp v).pc = s.pc := rfl
@[simp] theorem State.setSp_p (s : State) (v : Byte) : (s.setSp v).p = s.p := rfl
@[simp] theorem State.setSp_cycles (s : State) (v : Byte) : (s.setSp v).cycles = s.cycles := rfl
@[simp] theorem State.setSp_pending (s : State) (v : Byte) : (s.setSp v).pending = s.pending := rfl
@[simp] theorem State.setSp_nmiPrev (s : State) (v : Byte) : (s.setSp v).nmiPrev = s.nmiPrev := rfl
@[simp] theorem State.setSp_nmiEdge (s : State) (v : Byte) : (s.setSp v).nmiEdge = s.nmiEdge := rfl
@[simp] theorem State.setSp_waiting (s : State) (v : Byte) : (s.setSp v).waiting = s.waiting := rfl
@[simp] theorem State.setSp_stopped (s : State) (v : Byte) : (s.setSp v).stopped = s.stopped := rfl
@[simp] theorem State.setSp_bus (s : State) (v : Byte) : (s.setSp v).bus = s.bus := rfl
@[simp] theorem State.setSp_reserved (s : State) (v : Byte) : (s.setSp v).reserved = s.reserved := rfl
@[simp] theorem State.setSp_opcode5C (s : State) (v : Byte) : (s.setSp v).opcode5C = s.opcode5C := rfl
@[simp] theorem State.setSp_lines (s : State) (v : Byte) : (s.setSp v).lines = s.lines := rfl
@[simp] theorem State.setSp_inputs (s : State) (v : Byte) : (s.setSp v).inputs = s.inputs := rfl
@[simp] theorem State.setSp_agents (s : State) (v : Byte) : (s.setSp v).agents = s.agents := rfl
@[simp] theorem State.setSp_resetRequest (s : State) (v : Byte) : (s.setSp v).resetRequest = s.resetRequest := rfl
@[simp] theorem State.setSp_trace (s : State) (v : Byte) : (s.setSp v).trace = s.trace := rfl
@[simp] theorem State.setSp_samples (s : State) (v : Byte) : (s.setSp v).samples = s.samples := rfl
@[simp] theorem State.setSp_reports (s : State) (v : Byte) : (s.setSp v).reports = s.reports := rfl
@[simp] theorem State.setSp_outcome (s : State) (v : Byte) : (s.setSp v).outcome = s.outcome := rfl
@[simp] theorem State.setSp_linesAt (s : State) (v : Byte) (k : Nat) : (s.setSp v).linesAt k = s.linesAt k := rfl

/-! `setPc` -/
@[simp] theorem State.setPc_a (s : State) (v : Addr) : (s.setPc v).a = s.a := rfl
@[simp] theorem State.setPc_x (s : State) (v : Addr) : (s.setPc v).x = s.x := rfl
@[simp] theorem State.setPc_y (s : State) (v : Addr) : (s.setPc v).y = s.y := rfl
@[simp] theorem State.setPc_sp (s : State) (v : Addr) : (s.setPc v).sp = s.sp := rfl
@[simp] theorem State.setPc_pc (s : State) (v : Addr) : (s.setPc v).pc = v := rfl
@[simp] theorem State.setPc_p (s : State) (v : Addr) : (s.setPc v).p = s.p := rfl
@[simp] theorem State.setPc_cycles (s : State) (v : Addr) : (s.setPc v).cycles = s.cycles := rfl
@[simp] theorem State.setPc_pending (s : State) (v : Addr) : (s.setPc v).pending = s.pending := rfl
@[simp] theorem State.setPc_nmiPrev (s : State) (v : Addr) : (s.setPc v).nmiPrev = s.nmiPrev := rfl
@[simp] theorem State.setPc_nmiEdge (s : State) (v : Addr) : (s.setPc v).nmiEdge = s.nmiEdge := rfl
@[simp] theorem State.setPc_waiting (s : State) (v : Addr) : (s.setPc v).waiting = s.waiting := rfl
@[simp] theorem State.setPc_stopped (s : State) (v : Addr) : (s.setPc v).stopped = s.stopped := rfl
@[simp] theorem State.setPc_bus (s : State) (v : Addr) : (s.setPc v).bus = s.bus := rfl
@[simp] theorem State.setPc_reserved (s : State) (v : Addr) : (s.setPc v).reserved = s.reserved := rfl
@[simp] theorem State.setPc_opcode5C (s : State) (v : Addr) : (s.setPc v).opcode5C = s.opcode5C := rfl
@[simp] theorem State.setPc_lines (s : State) (v : Addr) : (s.setPc v).lines = s.lines := rfl
@[simp] theorem State.setPc_inputs (s : State) (v : Addr) : (s.setPc v).inputs = s.inputs := rfl
@[simp] theorem State.setPc_agents (s : State) (v : Addr) : (s.setPc v).agents = s.agents := rfl
@[simp] theorem State.setPc_resetRequest (s : State) (v : Addr) : (s.setPc v).resetRequest = s.resetRequest := rfl
@[simp] theorem State.setPc_trace (s : State) (v : Addr) : (s.setPc v).trace = s.trace := rfl
@[simp] theorem State.setPc_samples (s : State) (v : Addr) : (s.setPc v).samples = s.samples := rfl
@[simp] theorem State.setPc_reports (s : State) (v : Addr) : (s.setPc v).reports = s.reports := rfl
@[simp] theorem State.setPc_outcome (s : State) (v : Addr) : (s.setPc v).outcome = s.outcome := rfl
@[simp] theorem State.setPc_linesAt (s : State) (v : Addr) (k : Nat) : (s.setPc v).linesAt k = s.linesAt k := rfl

/-! `setP` -/
@[simp] theorem State.setP_a (s : State) (v : Flags) : (s.setP v).a = s.a := rfl
@[simp] theorem State.setP_x (s : State) (v : Flags) : (s.setP v).x = s.x := rfl
@[simp] theorem State.setP_y (s : State) (v : Flags) : (s.setP v).y = s.y := rfl
@[simp] theorem State.setP_sp (s : State) (v : Flags) : (s.setP v).sp = s.sp := rfl
@[simp] theorem State.setP_pc (s : State) (v : Flags) : (s.setP v).pc = s.pc := rfl
@[simp] theorem State.setP_p (s : State) (v : Flags) : (s.setP v).p = v := rfl
@[simp] theorem State.setP_cycles (s : State) (v : Flags) : (s.setP v).cycles = s.cycles := rfl
@[simp] theorem State.setP_pending (s : State) (v : Flags) : (s.setP v).pending = s.pending := rfl
@[simp] theorem State.setP_nmiPrev (s : State) (v : Flags) : (s.setP v).nmiPrev = s.nmiPrev := rfl
@[simp] theorem State.setP_nmiEdge (s : State) (v : Flags) : (s.setP v).nmiEdge = s.nmiEdge := rfl
@[simp] theorem State.setP_waiting (s : State) (v : Flags) : (s.setP v).waiting = s.waiting := rfl
@[simp] theorem State.setP_stopped (s : State) (v : Flags) : (s.setP v).stopped = s.stopped := rfl
@[simp] theorem State.setP_bus (s : State) (v : Flags) : (s.setP v).bus = s.bus := rfl
@[simp] theorem State.setP_reserved (s : State) (v : Flags) : (s.setP v).reserved = s.reserved := rfl
@[simp] theorem State.setP_opcode5C (s : State) (v : Flags) : (s.setP v).opcode5C = s.opcode5C := rfl
@[simp] theorem State.setP_lines (s : State) (v : Flags) : (s.setP v).lines = s.lines := rfl
@[simp] theorem State.setP_inputs (s : State) (v : Flags) : (s.setP v).inputs = s.inputs := rfl
@[simp] theorem State.setP_agents (s : State) (v : Flags) : (s.setP v).agents = s.agents := rfl
@[simp] theorem State.setP_resetRequest (s : State) (v : Flags) : (s.setP v).resetRequest = s.resetRequest := rfl
@[simp] theorem State.setP_trace (s : State) (v : Flags) : (s.setP v).trace = s.trace := rfl
@[simp] theorem State.setP_samples (s : State) (v : Flags) : (s.setP v).samples = s.samples := rfl
@[simp] theorem State.setP_reports (s : State) (v : Flags) : (s.setP v).reports = s.reports := rfl
@[simp] theorem State.setP_outcome (s : State) (v : Flags) : (s.setP v).outcome = s.outcome := rfl
@[simp] theorem State.setP_linesAt (s : State) (v : Flags) (k : Nat) : (s.setP v).linesAt k = s.linesAt k := rfl

/-! `setBus` -/
@[simp] theorem State.setBus_a (s : State) (v : Bus) : (s.setBus v).a = s.a := rfl
@[simp] theorem State.setBus_x (s : State) (v : Bus) : (s.setBus v).x = s.x := rfl
@[simp] theorem State.setBus_y (s : State) (v : Bus) : (s.setBus v).y = s.y := rfl
@[simp] theorem State.setBus_sp (s : State) (v : Bus) : (s.setBus v).sp = s.sp := rfl
@[simp] theorem State.setBus_pc (s : State) (v : Bus) : (s.setBus v).pc = s.pc := rfl
@[simp] theorem State.setBus_p (s : State) (v : Bus) : (s.setBus v).p = s.p := rfl
@[simp] theorem State.setBus_cycles (s : State) (v : Bus) : (s.setBus v).cycles = s.cycles := rfl
@[simp] theorem State.setBus_pending (s : State) (v : Bus) : (s.setBus v).pending = s.pending := rfl
@[simp] theorem State.setBus_nmiPrev (s : State) (v : Bus) : (s.setBus v).nmiPrev = s.nmiPrev := rfl
@[simp] theorem State.setBus_nmiEdge (s : State) (v : Bus) : (s.setBus v).nmiEdge = s.nmiEdge := rfl
@[simp] theorem State.setBus_waiting (s : State) (v : Bus) : (s.setBus v).waiting = s.waiting := rfl
@[simp] theorem State.setBus_stopped (s : State) (v : Bus) : (s.setBus v).stopped = s.stopped := rfl
@[simp] theorem State.setBus_bus (s : State) (v : Bus) : (s.setBus v).bus = v := rfl
@[simp] theorem State.setBus_reserved (s : State) (v : Bus) : (s.setBus v).reserved = s.reserved := rfl
@[simp] theorem State.setBus_opcode5C (s : State) (v : Bus) : (s.setBus v).opcode5C = s.opcode5C := rfl
@[simp] theorem State.setBus_lines (s : State) (v : Bus) : (s.setBus v).lines = s.lines := rfl
@[simp] theorem State.setBus_inputs (s : State) (v : Bus) : (s.setBus v).inputs = s.inputs := rfl
@[simp] theorem State.setBus_agents (s : State) (v : Bus) : (s.setBus v).agents = s.agents := rfl
@[simp] theorem State.setBus_resetRequest (s : State) (v : Bus) : (s.setBus v).resetRequest = s.resetRequest := rfl
@[simp] theorem State.setBus_trace (s : State) (v : Bus) : (s.setBus v).trace = s.trace := rfl
@[simp] theorem State.setBus_samples (s : State) (v : Bus) : (s.setBus v).samples = s.samples := rfl
@[simp] theorem State.setBus_reports (s : State) (v : Bus) : (s.setBus v).reports = s.reports := rfl
@[simp] theorem State.setBus_outcome (s : State) (v : Bus) : (s.setBus v).outcome = s.outcome := rfl
@[simp] theorem State.setBus_linesAt (s : State) (v : Bus) (k : Nat) : (s.setBus v).linesAt k = s.linesAt k := rfl

/-! `setPending` -/
@[simp] theorem State.setPending_a (s : State) (v : Bool) : (s.setPending v).a = s.a := rfl
@[simp] theorem State.setPending_x (s : State) (v : Bool) : (s.setPending v).x = s.x := rfl
@[simp] theorem State.setPending_y (s : State) (v : Bool) : (s.setPending v).y = s.y := rfl
@[simp] theorem State.setPending_sp (s : State) (v : Bool) : (s.setPending v).sp = s.sp := rfl
@[simp] theorem State.setPending_pc (s : State) (v : Bool) : (s.setPending v).pc = s.pc := rfl
@[simp] theorem State.setPending_p (s : State) (v : Bool) : (s.setPending v).p = s.p := rfl
@[simp] theorem State.setPending_cycles (s : State) (v : Bool) : (s.setPending v).cycles = s.cycles := rfl
@[simp] theorem State.setPending_pending (s : State) (v : Bool) : (s.setPending v).pending = v := rfl
@[simp] theorem State.setPending_nmiPrev (s : State) (v : Bool) : (s.setPending v).nmiPrev = s.nmiPrev := rfl
@[simp] theorem State.setPending_nmiEdge (s : State) (v : Bool) : (s.setPending v).nmiEdge = s.nmiEdge := rfl
@[simp] theorem State.setPending_waiting (s : State) (v : Bool) : (s.setPending v).waiting = s.waiting := rfl
@[simp] theorem State.setPending_stopped (s : State) (v : Bool) : (s.setPending v).stopped = s.stopped := rfl
@[simp] theorem State.setPending_bus (s : State) (v : Bool) : (s.setPending v).bus = s.bus := rfl
@[simp] theorem State.setPending_reserved (s : State) (v : Bool) : (s.setPending v).reserved = s.reserved := rfl
@[simp] theorem State.setPending_opcode5C (s : State) (v : Bool) : (s.setPending v).opcode5C = s.opcode5C := rfl
@[simp] theorem State.setPending_lines (s : State) (v : Bool) : (s.setPending v).lines = s.lines := rfl
@[simp] theorem State.setPending_inputs (s : State) (v : Bool) : (s.setPending v).inputs = s.inputs := rfl
@[simp] theorem State.setPending_agents (s : State) (v : Bool) : (s.setPending v).agents = s.agents := rfl
@[simp] theorem State.setPending_resetRequest (s : State) (v : Bool) : (s.setPending v).resetRequest = s.resetRequest := rfl
@[simp] theorem State.setPending_trace (s : State) (v : Bool) : (s.setPending v).trace = s.trace := rfl
@[simp] theorem State.setPending_samples (s : State) (v : Bool) : (s.setPending v).samples = s.samples := rfl
@[simp] theorem State.setPending_reports (s : State) (v : Bool) : (s.setPending v).reports = s.reports := rfl
@[simp] theorem State.setPending_outcome (s : State) (v : Bool) : (s.setPending v).outcome = s.outcome := rfl
@[simp] theorem State.setPending_linesAt (s : State) (v : Bool) (k : Nat) : (s.setPending v).linesAt k = s.linesAt k := rfl

/-! `setNmiEdge` -/
@[simp] theorem State.setNmiEdge_a (s : State) (v : Bool) : (s.setNmiEdge v).a = s.a := rfl
@[simp] theorem State.setNmiEdge_x (s : State) (v : Bool) : (s.setNmiEdge v).x = s.x := rfl
@[simp] theorem State.setNmiEdge_y (s : State) (v : Bool) : (s.setNmiEdge v).y = s.y := rfl
@[simp] theorem State.setNmiEdge_sp (s : State) (v : Bool) : (s.setNmiEdge v).sp = s.sp := rfl
@[simp] theorem State.setNmiEdge_pc (s : State) (v : Bool) : (s.setNmiEdge v).pc = s.pc := rfl
@[simp] theorem State.setNmiEdge_p (s : State) (v : Bool) : (s.setNmiEdge v).p = s.p := rfl
@[simp] theorem State.setNmiEdge_cycles (s : State) (v : Bool) : (s.setNmiEdge v).cycles = s.cycles := rfl
@[simp] theorem State.setNmiEdge_pending (s : State) (v : Bool) : (s.setNmiEdge v).pending = s.pending := rfl
@[simp] theorem State.setNmiEdge_nmiPrev (s : State) (v : Bool) : (s.setNmiEdge v).nmiPrev = s.nmiPrev := rfl
@[simp] theorem State.setNmiEdge_nmiEdge (s : State) (v : Bool) : (s.setNmiEdge v).nmiEdge = v := rfl
@[simp] theorem State.setNmiEdge_waiting (s : State) (v : Bool) : (s.setNmiEdge v).waiting = s.waiting := rfl
@[simp] theorem State.setNmiEdge_stopped (s : State) (v : Bool) : (s.setNmiEdge v).stopped = s.stopped := rfl
@[simp] theorem State.setNmiEdge_bus (s : State) (v : Bool) : (s.setNmiEdge v).bus = s.bus := rfl
@[simp] theorem State.setNmiEdge_reserved (s : State) (v : Bool) : (s.setNmiEdge v).reserved = s.reserved := rfl
@[simp] theorem State.setNmiEdge_opcode5C (s : State) (v : Bool) : (s.setNmiEdge v).opcode5C = s.opcode5C := rfl
@[simp] theorem State.setNmiEdge_lines (s : State) (v : Bool) : (s.setNmiEdge v).lines = s.lines := rfl
@[simp] theorem State.setNmiEdge_inputs (s : State) (v : Bool) : (s.setNmiEdge v).inputs = s.inputs := rfl
@[simp] theorem State.setNmiEdge_agents (s : State) (v : Bool) : (s.setNmiEdge v).agents = s.agents := rfl
@[simp] theorem State.setNmiEdge_resetRequest (s : State) (v : Bool) : (s.setNmiEdge v).resetRequest = s.resetRequest := rfl
@[simp] theorem State.setNmiEdge_trace (s : State) (v : Bool) : (s.setNmiEdge v).trace = s.trace := rfl
@[simp] theorem State.setNmiEdge_samples (s : State) (v : Bool) : (s.setNmiEdge v).samples = s.samples := rfl
@[simp] theorem State.setNmiEdge_reports (s : State) (v : Bool) : (s.setNmiEdge v).reports = s.reports := rfl
@[simp] theorem State.setNmiEdge_outcome (s : State) (v : Bool) : (s.setNmiEdge v).outcome = s.outcome := rfl
@[simp] theorem State.setNmiEdge_linesAt (s : State) (v : Bool) (k : Nat) : (s.setNmiEdge v).linesAt k = s.linesAt k := rfl

/-! `setNmiPrev` -/
@[simp] theorem State.setNmiPrev_a (s : State) (v : Bool) : (s.setNmiPrev v).a = s.a := rfl
@[simp] theorem State.setNmiPrev_x (s : State) (v : Bool) : (s.setNmiPrev v).x = s.x := rfl
@[simp] theorem State.setNmiPrev_y (s : State) (v : Bool) : (s.setNmiPrev v).y = s.y := rfl
@[simp] theorem State.setNmiPrev_sp (s : State) (v : Bool) : (s.setNmiPrev v).sp = s.sp := rfl
@[simp] theorem State.setNmiPrev_pc (s : State) (v : Bool) : (s.setNmiPrev v).pc = s.pc := rfl
@[simp] theorem State.setNmiPrev_p (s : State) (v : Bool) : (s.setNmiPrev v).p = s.p := rfl
@[simp] theorem State.setNmiPrev_cycles (s : State) (v : Bool) : (s.setNmiPrev v).cycles = s.cycles := rfl
@[simp] theorem State.setNmiPrev_pending (s : State) (v : Bool) : (s.setNmiPrev v).pending = s.pending := rfl
@[simp] theorem State.setNmiPrev_nmiPrev (s : State) (v : Bool) : (s.setNmiPrev v).nmiPrev = v := rfl
@[simp] theorem State.setNmiPrev_nmiEdge (s : State) (v : Bool) : (s.setNmiPrev v).nmiEdge = s.nmiEdge := rfl
@[simp] theorem State.setNmiPrev_waiting (s : State) (v : Bool) : (s.setNmiPrev v).waiting = s.waiting := rfl
@[simp] theorem State.setNmiPrev_stopped (s : State) (v : Bool) : (s.setNmiPrev v).stopped = s.stopped := rfl
@[simp] theorem State.setNmiPrev_bus (s : State) (v : Bool) : (s.setNmiPrev v).bus = s.bus := rfl
@[simp] theorem State.setNmiPrev_reserved (s : State) (v : Bool) : (s.setNmiPrev v).reserved = s.reserved := rfl
@[simp] theorem State.setNmiPrev_opcode5C (s : State) (v : Bool) : (s.setNmiPrev v).opcode5C = s.opcode5C := rfl
@[simp] theorem State.setNmiPrev_lines (s : State) (v : Bool) : (s.setNmiPrev v).lines = s.lines := rfl
@[simp] theorem State.setNmiPrev_inputs (s : State) (v : Bool) : (s.setNmiPrev v).inputs = s.inputs := rfl
@[simp] theorem State.setNmiPrev_agents (s : State) (v : Bool) : (s.setNmiPrev v).agents = s.agents := rfl
@[simp] theorem State.setNmiPrev_resetRequest (s : State) (v : Bool) : (s.setNmiPrev v).resetRequest = s.resetRequest := rfl
@[simp] theorem State.setNmiPrev_trace (s : State) (v : Bool) : (s.setNmiPrev v).trace = s.trace := rfl
@[simp] theorem State.setNmiPrev_samples (s : State) (v : Bool) : (s.setNmiPrev v).samples = s.samples := rfl
@[simp] theorem State.setNmiPrev_reports (s : State) (v : Bool) : (s.setNmiPrev v).reports = s.reports := rfl
@[simp] theorem State.setNmiPrev_outcome (s : State) (v : Bool) : (s.setNmiPrev v).outcome = s.outcome := rfl
@[simp] theorem State.setNmiPrev_linesAt (s : State) (v : Bool) (k : Nat) : (s.setNmiPrev v).linesAt k = s.linesAt k := rfl

/-! `setWaiting` -/
@[simp] theorem State.setWaiting_a (s : State) (v : Bool) : (s.setWaiting v).a = s.a := rfl
@[simp] theorem State.setWaiting_x (s : State) (v : Bool) : (s.setWaiting v).x = s.x := rfl
@[simp] theorem State.setWaiting_y (s : State) (v : Bool) : (s.setWaiting v).y = s.y := rfl
@[simp] theorem State.setWaiting_sp (s : State) (v : Bool) : (s.setWaiting v).sp = s.sp := rfl
@[simp] theorem State.setWaiting_pc (s : State) (v : Bool) : (s.setWaiting v).pc = s.pc := rfl
@[simp] theorem State.setWaiting_p (s : State) (v : Bool) : (s.setWaiting v).p = s.p := rfl
@[simp] theorem State.setWaiting_cycles (s : State) (v : Bool) : (s.setWaiting v).cycles = s.cycles := rfl
@[simp] theorem State.setWaiting_pending (s : State) (v : Bool) : (s.setWaiting v).pending = s.pending := rfl
@[simp] theorem State.setWaiting_nmiPrev (s : State) (v : Bool) : (s.setWaiting v).nmiPrev = s.nmiPrev := rfl
@[simp] theorem State.setWaiting_nmiEdge (s : State) (v : Bool) : (s.setWaiting v).nmiEdge = s.nmiEdge := rfl
@[simp] theorem State.setWaiting_waiting (s : State) (v : Bool) : (s.setWaiting v).waiting = v := rfl
@[simp] theorem State.setWaiting_stopped (s : State) (v : Bool) : (s.setWaiting v).stopped = s.stopped := rfl
@[simp] theorem State.setWaiting_bus (s : State) (v : Bool) : (s.setWaiting v).bus = s.bus := rfl
@[simp] theorem State.setWaiting_reserved (s : State) (v : Bool) : (s.setWaiting v).reserved = s.reserved := rfl
@[simp] theorem State.setWaiting_opcode5C (s : State) (v : Bool) : (s.setWaiting v).opcode5C = s.opcode5C := rfl
@[simp] theorem State.setWaiting_lines (s : State) (v : Bool) : (s.setWaiting v).lines = s.lines := rfl
@[simp] theorem State.setWaiting_inputs (s : State) (v : Bool) : (s.setWaiting v).inputs = s.inputs := rfl
@[simp] theorem State.setWaiting_agents (s : State) (v : Bool) : (s.setWaiting v).agents = s.agents := rfl
@[simp] theorem State.setWaiting_resetRequest (s : State) (v : Bool) : (s.setWaiting v).resetRequest = s.resetRequest := rfl
@[simp] theorem State.setWaiting_trace (s : State) (v : Bool) : (s.setWaiting v).trace = s.trace := rfl
@[simp] theorem State.setWaiting_samples (s : State) (v : Bool) : (s.setWaiting v).samples = s.samples := rfl
@[simp] theorem State.setWaiting_reports (s : State) (v : Bool) : (s.setWaiting v).reports = s.reports := rfl
@[simp] theorem State.setWaiting_outcome (s : State) (v : Bool) : (s.setWaiting v).outcome = s.outcome := rfl
@[simp] theorem State.setWaiting_linesAt (s : State) (v : Bool) (k : Nat) : (s.setWaiting v).linesAt k = s.linesAt k := rfl

/-! `setStopped` -/
@[simp] theorem State.setStopped_a (s : State) (v : Bool) : (s.setStopped v).a = s.a := rfl
@[simp] theorem State.setStopped_x (s : State) (v : Bool) : (s.setStopped v).x = s.x := rfl
@[simp] theorem State.setStopped_y (s : State) (v : Bool) : (s.setStopped v).y = s.y := rfl
@[simp] theorem State.setStopped_sp (s : State) (v : Bool) : (s.setStopped v).sp = s.sp := rfl
@[simp] theorem State.setStopped_pc (s : State) (v : Bool) : (s.setStopped v).pc = s.pc := rfl
@[simp] theorem State.setStopped_p (s : State) (v : Bool) : (s.setStopped v).p = s.p := rfl
@[simp] theorem State.setStopped_cycles (s : State) (v : Bool) : (s.setStopped v).cycles = s.cycles := rfl
@[simp] theorem State.setStopped_pending (s : State) (v : Bool) : (s.setStopped v).pending = s.pending := rfl
@[simp] theorem State.setStopped_nmiPrev (s : State) (v : Bool) : (s.setStopped v).nmiPrev = s.nmiPrev := rfl
@[simp] theorem State.setStopped_nmiEdge (s : State) (v : Bool) : (s.setStopped v).nmiEdge = s.nmiEdge := rfl
@[simp] theorem State.setStopped_waiting (s : State) (v : Bool) : (s.setStopped v).waiting = s.waiting := rfl
@[simp] theorem State.setStopped_stopped (s : State) (v : Bool) : (s.setStopped v).stopped = v := rfl
@[simp] theorem State.setStopped_bus (s : State) (v : Bool) : (s.setStopped v).bus = s.bus := rfl
@[simp] theorem State.setStopped_reserved (s : State) (v : Bool) : (s.setStopped v).reserved = s.reserved := rfl
@[simp] theorem State.setStopped_opcode5C (s : State) (v : Bool) : (s.setStopped v).opcode5C = s.opcode5C := rfl
@[simp] theorem State.setStopped_lines (s : State) (v : Bool) : (s.setStopped v).lines = s.lines := rfl
@[simp] theorem State.setStopped_inputs (s : State) (v : Bool) : (s.setStopped v).inputs = s.inputs := rfl
@[simp] theorem State.setStopped_agents (s : State) (v : Bool) : (s.setStopped v).agents = s.agents := rfl
@[simp] theorem State.setStopped_resetRequest (s : State) (v : Bool) : (s.setStopped v).resetRequest = s.resetRequest := rfl
@[simp] theorem State.setStopped_trace (s : State) (v : Bool) : (s.setStopped v).trace = s.trace := rfl
@[simp] theorem State.setStopped_samples (s : State) (v : Bool) : (s.setStopped v).samples = s.samples := rfl
@[simp] theorem State.setStopped_reports (s : State) (v : Bool) : (s.setStopped v).reports = s.reports := rfl
@[simp] theorem State.setStopped_outcome (s : State) (v : Bool) : (s.setStopped v).outcome = s.outcome := rfl
@[simp] theorem State.setStopped_linesAt (s : State) (v : Bool) (k : Nat) : (s.setStopped v).linesAt k = s.linesAt k := rfl

/-! `setOutcome` -/
@[simp] theorem State.setOutcome_a (s : State) (v : StepOutcome) : (s.setOutcome v).a = s.a := rfl
@[simp] theorem State.setOutcome_x (s : State) (v : StepOutcome) : (s.setOutcome v).x = s.x := rfl
@[simp] theorem State.setOutcome_y (s : State) (v : StepOutcome) : (s.setOutcome v).y = s.y := rfl
@[simp] theorem State.setOutcome_sp (s : State) (v : StepOutcome) : (s.setOutcome v).sp = s.sp := rfl
@[simp] theorem State.setOutcome_pc (s : State) (v : StepOutcome) : (s.setOutcome v).pc = s.pc := rfl
@[simp] theorem State.setOutcome_p (s : State) (v : StepOutcome) : (s.setOutcome v).p = s.p := rfl
@[simp] theorem State.setOutcome_cycles (s : State) (v : StepOutcome) : (s.setOutcome v).cycles = s.cycles := rfl
@[simp] theorem State.setOutcome_pending (s : State) (v : StepOutcome) : (s.setOutcome v).pending = s.pending := rfl
@[simp] theorem State.setOutcome_nmiPrev (s : State) (v : StepOutcome) : (s.setOutcome v).nmiPrev = s.nmiPrev := rfl
@[simp] theorem State.setOutcome_nmiEdge (s : State) (v : StepOutcome) : (s.setOutcome v).nmiEdge = s.nmiEdge := rfl
@[simp] theorem State.setOutcome_waiting (s : State) (v : StepOutcome) : (s.setOutcome v).waiting = s.waiting := rfl
@[simp] theorem State.setOutcome_stopped (s : State) (v : StepOutcome) : (s.setOutcome v).stopped = s.stopped := rfl
@[simp] theorem State.setOutcome_bus (s : State) (v : StepOutcome) : (s.setOutcome v).bus = s.bus := rfl
@[simp] theorem State.setOutcome_reserved (s : State) (v : StepOutcome) : (s.setOutcome v).reserved = s.reserved := rfl
@[simp] theorem State.setOutcome_opcode5C (s : State) (v : StepOutcome) : (s.setOutcome v).opcode5C = s.opcode5C := rfl
@[simp] theorem State.setOutcome_lines (s : State) (v : StepOutcome) : (s.setOutcome v).lines = s.lines := rfl
@[simp] theorem State.setOutcome_inputs (s : State) (v : StepOutcome) : (s.setOutcome v).inputs = s.inputs := rfl
@[simp] theorem State.setOutcome_agents (s : State) (v : StepOutcome) : (s.setOutcome v).agents = s.agents := rfl
@[simp] theorem State.setOutcome_resetRequest (s : State) (v : StepOutcome) : (s.setOutcome v).resetRequest = s.resetRequest := rfl
@[simp] theorem State.setOutcome_trace (s : State) (v : StepOutcome) : (s.setOutcome v).trace = s.trace := rfl
@[simp] theorem State.setOutcome_samples (s : State) (v : StepOutcome) : (s.setOutcome v).samples = s.samples := rfl
@[simp] theorem State.setOutcome_reports (s : State) (v : StepOutcome) : (s.setOutcome v).reports = s.reports := rfl
@[simp] theorem State.setOutcome_outcome (s : State) (v : StepOutcome) : (s.setOutcome v).outcome = v := rfl
@[simp] theorem State.setOutcome_linesAt (s : State) (v : StepOutcome) (k : Nat) : (s.setOutcome v).linesAt k = s.linesAt k := rfl

/-! `setResetRequest` -/
@[simp] theorem State.setResetRequest_a (s : State) (v : Bool) : (s.setResetRequest v).a = s.a := rfl
@[simp] theorem State.setResetRequest_x (s : State) (v : Bool) : (s.setResetRequest v).x = s.x := rfl
@[simp] theorem State.setResetRequest_y (s : State) (v : Bool) : (s.setResetRequest v).y = s.y := rfl
@[simp] theorem State.setResetRequest_sp (s : State) (v : Bool) : (s.setResetRequest v).sp = s.sp := rfl
@[simp] theorem State.setResetRequest_pc (s : State) (v : Bool) : (s.setResetRequest v).pc = s.pc := rfl
@[simp] theorem State.setResetRequest_p (s : State) (v : Bool) : (s.setResetRequest v).p = s.p := rfl
@[simp] theorem State.setResetRequest_cycles (s : State) (v : Bool) : (s.setResetRequest v).cycles = s.cycles := rfl
@[simp] theorem State.setResetRequest_pending (s : State) (v : Bool) : (s.setResetRequest v).pending = s.pending := rfl
@[simp] theorem State.setResetRequest_nmiPrev (s : State) (v : Bool) : (s.setResetRequest v).nmiPrev = s.nmiPrev := rfl
@[simp] theorem State.setResetRequest_nmiEdge (s : State) (v : Bool) : (s.setResetRequest v).nmiEdge = s.nmiEdge := rfl
@[simp] theorem State.setResetRequest_waiting (s : State) (v : Bool) : (s.setResetRequest v).waiting = s.waiting := rfl
@[simp] theorem State.setResetRequest_stopped (s : State) (v : Bool) : (s.setResetRequest v).stopped = s.stopped := rfl
@[simp] theorem State.setResetRequest_bus (s : State) (v : Bool) : (s.setResetRequest v).bus = s.bus := rfl
@[simp] theorem State.setResetRequest_reserved (s : State) (v : Bool) : (s.setResetRequest v).reserved = s.reserved := rfl
@[simp] theorem State.setResetRequest_opcode5C (s : State) (v : Bool) : (s.setResetRequest v).opcode5C = s.opcode5C := rfl
@[simp] theorem State.setResetRequest_lines (s : State) (v : Bool) : (s.setResetRequest v).lines = s.lines := rfl
@[simp] theorem State.setResetRequest_inputs (s : State) (v : Bool) : (s.setResetRequest v).inputs = s.inputs := rfl
@[simp] theorem State.setResetRequest_agents (s : State) (v : Bool) : (s.setResetRequest v).agents = s.agents := rfl
@[simp] theorem State.setResetRequest_resetRequest (s : State) (v : Bool) : (s.setResetRequest v).resetRequest = v := rfl
@[simp] theorem State.setResetRequest_trace (s : State) (v : Bool) : (s.setResetRequest v).trace = s.trace := rfl
@[simp] theorem State.setResetRequest_samples (s : State) (v : Bool) : (s.setResetRequest v).samples = s.samples := rfl
@[simp] theorem State.setResetRequest_reports (s : State) (v : Bool) : (s.setResetRequest v).reports = s.reports := rfl
@[simp] theorem State.setResetRequest_outcome (s : State) (v : Bool) : (s.setResetRequest v).outcome = s.outcome := rfl
@[simp] theorem State.setResetRequest_linesAt (s : State) (v : Bool) (k : Nat) : (s.setResetRequest v).linesAt k = s.linesAt k := rfl

/-! `tick` -/
@[simp] theorem State.tick_a (s : State) (e : Event) (r : List Report) :
    (s.tick e r).a = s.a := rfl
@[simp] theorem State.tick_x (s : State) (e : Event) (r : List Report) :
    (s.tick e r).x = s.x := rfl
@[simp] theorem State.tick_y (s : State) (e : Event) (r : List Report) :
    (s.tick e r).y = s.y := rfl
@[simp] theorem State.tick_sp (s : State) (e : Event) (r : List Report) :
    (s.tick e r).sp = s.sp := rfl
@[simp] theorem State.tick_pc (s : State) (e : Event) (r : List Report) :
    (s.tick e r).pc = s.pc := rfl
@[simp] theorem State.tick_p (s : State) (e : Event) (r : List Report) :
    (s.tick e r).p = s.p := rfl
@[simp] theorem State.tick_cycles (s : State) (e : Event) (r : List Report) :
    (s.tick e r).cycles = s.cycles + 1 := rfl
@[simp] theorem State.tick_pending (s : State) (e : Event) (r : List Report) :
    (s.tick e r).pending = s.pending := rfl
@[simp] theorem State.tick_nmiPrev (s : State) (e : Event) (r : List Report) :
    (s.tick e r).nmiPrev = (s.linesAt 1).nmi := rfl
@[simp] theorem State.tick_nmiEdge (s : State) (e : Event) (r : List Report) :
    (s.tick e r).nmiEdge = (s.nmiEdge || ((s.linesAt 1).nmi && !s.nmiPrev)) := rfl
@[simp] theorem State.tick_waiting (s : State) (e : Event) (r : List Report) :
    (s.tick e r).waiting = s.waiting := rfl
@[simp] theorem State.tick_stopped (s : State) (e : Event) (r : List Report) :
    (s.tick e r).stopped = s.stopped := rfl
@[simp] theorem State.tick_bus (s : State) (e : Event) (r : List Report) :
    (s.tick e r).bus = s.bus := rfl
@[simp] theorem State.tick_reserved (s : State) (e : Event) (r : List Report) :
    (s.tick e r).reserved = s.reserved := rfl
@[simp] theorem State.tick_opcode5C (s : State) (e : Event) (r : List Report) :
    (s.tick e r).opcode5C = s.opcode5C := rfl
@[simp] theorem State.tick_lines (s : State) (e : Event) (r : List Report) :
    (s.tick e r).lines = s.linesAt 1 := rfl
@[simp] theorem State.tick_inputs (s : State) (e : Event) (r : List Report) :
    (s.tick e r).inputs = s.inputs.tail := rfl
@[simp] theorem State.tick_agents (s : State) (e : Event) (r : List Report) :
    (s.tick e r).agents = s.agents := rfl
@[simp] theorem State.tick_resetRequest (s : State) (e : Event) (r : List Report) :
    (s.tick e r).resetRequest = s.resetRequest := rfl
@[simp] theorem State.tick_trace (s : State) (e : Event) (r : List Report) :
    (s.tick e r).trace = s.trace ++ [e] := rfl
@[simp] theorem State.tick_samples (s : State) (e : Event) (r : List Report) :
    (s.tick e r).samples = s.samples ++ [(s.nmiEdge || ((s.linesAt 1).nmi && !s.nmiPrev)) || ((s.linesAt 1).irq && !s.p.i)] := rfl
@[simp] theorem State.tick_reports (s : State) (e : Event) (r : List Report) :
    (s.tick e r).reports = s.reports ++ r := rfl
@[simp] theorem State.tick_outcome (s : State) (e : Event) (r : List Report) :
    (s.tick e r).outcome = s.outcome := rfl

/-- One event later, the k-th event to come is the one that was (k + 1)-th. -/
@[simp] theorem State.tick_linesAt (s : State) (e : Event) (r : List Report) (k : Nat) :
    (s.tick e r).linesAt k = s.linesAt (k + 1) := by
  show levelsAfter (levelsAfter s.lines s.inputs 1) s.inputs.tail k = levelsAfter s.lines s.inputs (k + 1)
  cases s.inputs with
  | nil => cases k <;> rfl
  | cons l rest => simp [levelsAfter]

/-! `beginStep` -/
@[simp] theorem State.beginStep_a (s : State) (o : StepOutcome) : (s.beginStep o).a = s.a := rfl
@[simp] theorem State.beginStep_x (s : State) (o : StepOutcome) : (s.beginStep o).x = s.x := rfl
@[simp] theorem State.beginStep_y (s : State) (o : StepOutcome) : (s.beginStep o).y = s.y := rfl
@[simp] theorem State.beginStep_sp (s : State) (o : StepOutcome) : (s.beginStep o).sp = s.sp := rfl
@[simp] theorem State.beginStep_pc (s : State) (o : StepOutcome) : (s.beginStep o).pc = s.pc := rfl
@[simp] theorem State.beginStep_p (s : State) (o : StepOutcome) : (s.beginStep o).p = s.p := rfl
@[simp] theorem State.beginStep_cycles (s : State) (o : StepOutcome) : (s.beginStep o).cycles = s.cycles := rfl
@[simp] theorem State.beginStep_pending (s : State) (o : StepOutcome) : (s.beginStep o).pending = s.pending := rfl
@[simp] theorem State.beginStep_nmiPrev (s : State) (o : StepOutcome) : (s.beginStep o).nmiPrev = s.nmiPrev := rfl
@[simp] theorem State.beginStep_nmiEdge (s : State) (o : StepOutcome) : (s.beginStep o).nmiEdge = s.nmiEdge := rfl
@[simp] theorem State.beginStep_waiting (s : State) (o : StepOutcome) : (s.beginStep o).waiting = s.waiting := rfl
@[simp] theorem State.beginStep_stopped (s : State) (o : StepOutcome) : (s.beginStep o).stopped = s.stopped := rfl
@[simp] theorem State.beginStep_bus (s : State) (o : StepOutcome) : (s.beginStep o).bus = s.bus := rfl
@[simp] theorem State.beginStep_reserved (s : State) (o : StepOutcome) : (s.beginStep o).reserved = s.reserved := rfl
@[simp] theorem State.beginStep_opcode5C (s : State) (o : StepOutcome) : (s.beginStep o).opcode5C = s.opcode5C := rfl
@[simp] theorem State.beginStep_lines (s : State) (o : StepOutcome) : (s.beginStep o).lines = s.lines := rfl
@[simp] theorem State.beginStep_inputs (s : State) (o : StepOutcome) : (s.beginStep o).inputs = s.inputs := rfl
@[simp] theorem State.beginStep_agents (s : State) (o : StepOutcome) : (s.beginStep o).agents = s.agents := rfl
@[simp] theorem State.beginStep_resetRequest (s : State) (o : StepOutcome) : (s.beginStep o).resetRequest = s.resetRequest := rfl
@[simp] theorem State.beginStep_trace (s : State) (o : StepOutcome) : (s.beginStep o).trace = [] := rfl
@[simp] theorem State.beginStep_samples (s : State) (o : StepOutcome) : (s.beginStep o).samples = [] := rfl
@[simp] theorem State.beginStep_reports (s : State) (o : StepOutcome) : (s.beginStep o).reports = s.reports := rfl
@[simp] theorem State.beginStep_outcome (s : State) (o : StepOutcome) : (s.beginStep o).outcome = o := rfl
@[simp] theorem State.beginStep_linesAt (s : State) (o : StepOutcome) (k : Nat) :
    (s.beginStep o).linesAt k = s.linesAt k := rfl

/-! `arch` -/
@[simp] theorem State.arch_a (s : State) : s.arch.a = s.a := rfl
@[simp] theorem State.arch_x (s : State) : s.arch.x = s.x := rfl
@[simp] theorem State.arch_y (s : State) : s.arch.y = s.y := rfl
@[simp] theorem State.arch_sp (s : State) : s.arch.sp = s.sp := rfl
@[simp] theorem State.arch_pc (s : State) : s.arch.pc = s.pc := rfl
@[simp] theorem State.arch_p (s : State) : s.arch.p = s.p := rfl
@[simp] theorem State.arch_waiting (s : State) : s.arch.waiting = s.waiting := rfl
@[simp] theorem State.arch_stopped (s : State) : s.arch.stopped = s.stopped := rfl
@[simp] theorem State.arch_bus (s : State) : s.arch.bus = s.bus := rfl
@[simp] theorem State.arch_reserved (s : State) : s.arch.reserved = s.reserved := rfl
@[simp] theorem State.arch_opcode5C (s : State) : s.arch.opcode5C = s.opcode5C := rfl
@[simp] theorem State.arch_agents (s : State) : s.arch.agents = s.agents := rfl
@[simp] theorem State.arch_resetRequest (s : State) : s.arch.resetRequest = s.resetRequest := rfl
@[simp] theorem State.tick_arch (s : State) (e : Event) (r : List Report) : (s.tick e r).arch = s.arch := rfl
@[simp] theorem State.beginStep_arch (s : State) (o : StepOutcome) : (s.beginStep o).arch = s.arch := rfl
@[simp] theorem State.setA_arch (s : State) (v : Byte) : (s.setA v).arch = { s.arch with a := v } := rfl
@[simp] theorem State.setX_arch (s : State) (v : Byte) : (s.setX v).arch = { s.arch with x := v } := rfl
@[simp] theorem State.setY_arch (s : State) (v : Byte) : (s.setY v).arch = { s.arch with y := v } := rfl
@[simp] theorem State.setSp_arch (s : State) (v : Byte) : (s.setSp v).arch = { s.arch with sp := v } := rfl
@[simp] theorem State.setPc_arch (s : State) (v : Addr) : (s.setPc v).arch = { s.arch with pc := v } := rfl
@[simp] theorem State.setP_arch (s : State) (v : Flags) : (s.setP v).arch = { s.arch with p := v } := rfl
@[simp] theorem State.setBus_arch (s : State) (v : Bus) : (s.setBus v).arch = { s.arch with bus := v } := rfl
@[simp] theorem State.setPending_arch (s : State) (v : Bool) : (s.setPending v).arch = s.arch := rfl
@[simp] theorem State.setNmiEdge_arch (s : State) (v : Bool) : (s.setNmiEdge v).arch = s.arch := rfl
@[simp] theorem State.setNmiPrev_arch (s : State) (v : Bool) : (s.setNmiPrev v).arch = s.arch := rfl
@[simp] theorem State.setWaiting_arch (s : State) (v : Bool) : (s.setWaiting v).arch = { s.arch with waiting := v } := rfl
@[simp] theorem State.setStopped_arch (s : State) (v : Bool) : (s.setStopped v).arch = { s.arch with stopped := v } := rfl
@[simp] theorem State.setOutcome_arch (s : State) (v : StepOutcome) : (s.setOutcome v).arch = s.arch := rfl
@[simp] theorem State.setResetRequest_arch (s : State) (v : Bool) : (s.setResetRequest v).arch = { s.arch with resetRequest := v } := rfl

end Sys2Proof.Machine
end

