-- ==== Sys2Proof/Laws/Clock.lean ====
section
/-! SUPPORT. What a sequence of events does to everything but the registers, the flags and the bytes on the bus:
`Clock i s u evs` says that `u` is `s` after the events `evs`, with I equal to `i` at each of them. -/

namespace Sys2Proof.Machine

/-- The samples of the next `n` events (41_accessors R213). -/
def State.samplesOf (s : State) (i : Bool) (n : Nat) : List Bool :=
  (List.range n).map (fun k => s.sampleAfter i (k + 1))

structure Clock (i : Bool) (s u : State) (evs : List Event) : Prop where
  cycles : u.cycles = s.cycles + evs.length
  trace : u.trace = s.trace ++ evs
  samples : u.samples = s.samples ++ s.samplesOf i evs.length
  lines : ∀ k, u.linesAt k = s.linesAt (k + evs.length)
  edge : u.nmiEdge = s.edgeAfter evs.length
  prev : u.nmiPrev = s.prevAfter evs.length
  pending : u.pending = s.pending
  outcome : u.outcome = s.outcome
  map : u.bus.map = s.bus.map
  reports : u.reports = s.reports ++ reportsOf s.bus evs

theorem Clock.refl (i : Bool) (s : State) : Clock i s s [] := by
  constructor <;> simp [State.samplesOf, State.edgeAfter, State.prevAfter, reportsOf]

/-! ### Composition -/

theorem Clock.prevAfter {i : Bool} {s u : State} {evs : List Event} (h : Clock i s u evs) (k : Nat) :
    u.prevAfter k = s.prevAfter (k + evs.length) := by
  cases k with
  | zero => simpa [State.prevAfter] using h.prev
  | succ k =>
    have e : k + 1 + evs.length = (k + evs.length) + 1 := by omega
    rw [e]
    simp only [State.prevAfter, h.lines, e]

theorem Clock.edgeAfter {i : Bool} {s u : State} {evs : List Event} (h : Clock i s u evs) (k : Nat) :
    u.edgeAfter k = s.edgeAfter (k + evs.length) := by
  induction k with
  | zero => simpa [State.edgeAfter] using h.edge
  | succ k ih =>
    have e : k + 1 + evs.length = (k + evs.length) + 1 := by omega
    rw [e]
    simp only [State.edgeAfter, ih, h.lines, h.prevAfter, e]

theorem Clock.sampleAfter {i : Bool} {s u : State} {evs : List Event} (h : Clock i s u evs) (j : Bool) (k : Nat) :
    u.sampleAfter j k = s.sampleAfter j (k + evs.length) := by
  simp only [State.sampleAfter, h.edgeAfter, h.lines]

theorem State.samplesOf_add (s : State) (i : Bool) (m n : Nat) :
    s.samplesOf i (m + n) = s.samplesOf i m ++ (List.range n).map (fun k => s.sampleAfter i (k + m + 1)) := by
  simp only [State.samplesOf, List.range_add, List.map_append, List.map_map]
  congr 1
  apply List.map_congr_left
  intro k _
  simp only [Function.comp]
  congr 1
  omega

theorem Clock.trans {i : Bool} {s u v : State} {e1 e2 : List Event} (h1 : Clock i s u e1) (h2 : Clock i u v e2) :
    Clock i s v (e1 ++ e2) where
  cycles := by rw [h2.cycles, h1.cycles, List.length_append]; omega
  trace := by rw [h2.trace, h1.trace, List.append_assoc]
  samples := by
    rw [h2.samples, h1.samples, List.append_assoc, List.length_append, State.samplesOf_add]
    congr 2
    simp only [State.samplesOf, h1.sampleAfter]
    apply List.map_congr_left
    intro k _
    congr 1
    omega
  lines k := by rw [h2.lines, h1.lines, List.length_append]; congr 1; omega
  edge := by rw [h2.edge, h1.edgeAfter, List.length_append]; congr 1; omega
  prev := by rw [h2.prev, h1.prevAfter, List.length_append]; congr 1; omega
  pending := h2.pending.trans h1.pending
  outcome := h2.outcome.trans h1.outcome
  map := h2.map.trans h1.map
  reports := by rw [h2.reports, h1.reports, reportsOf_congr h1.map, List.append_assoc, reportsOf_append]

/-- One event. -/
theorem Clock.of_tick (s : State) (e : Event) : Clock s.p.i s (s.tick e (eventReports s.bus e)) [e] where
  cycles := rfl
  trace := rfl
  samples := by
    simp [State.samplesOf, State.sampleAfter, State.edgeAfter, State.prevAfter, List.range_succ]
  lines k := by simp
  edge := by simp [State.edgeAfter, State.prevAfter]
  prev := by simp [State.prevAfter]
  pending := rfl
  outcome := rfl
  map := rfl
  reports := by simp [reportsOf]

/-- An update that touches neither the clock nor the latches. -/
theorem Clock.of_same (i : Bool) {s u : State} (h1 : u.cycles = s.cycles) (h2 : u.trace = s.trace)
    (h3 : u.samples = s.samples) (h4 : ∀ k, u.linesAt k = s.linesAt k) (h5 : u.nmiEdge = s.nmiEdge)
    (h6 : u.nmiPrev = s.nmiPrev) (h7 : u.pending = s.pending) (h8 : u.outcome = s.outcome)
    (h9 : u.bus.map = s.bus.map) (h10 : u.reports = s.reports) : Clock i s u [] := by
  constructor <;>
    simp [State.samplesOf, State.edgeAfter, State.prevAfter, reportsOf, h1, h2, h3, h4, h5, h6, h7, h8, h9, h10]

theorem Clock.of_setA (i : Bool) (s : State) (v : Byte) : Clock i s (s.setA v) [] := by apply Clock.of_same <;> simp
theorem Clock.of_setX (i : Bool) (s : State) (v : Byte) : Clock i s (s.setX v) [] := by apply Clock.of_same <;> simp
theorem Clock.of_setY (i : Bool) (s : State) (v : Byte) : Clock i s (s.setY v) [] := by apply Clock.of_same <;> simp
theorem Clock.of_setSp (i : Bool) (s : State) (v : Byte) : Clock i s (s.setSp v) [] := by apply Clock.of_same <;> simp
theorem Clock.of_setPc (i : Bool) (s : State) (v : Addr) : Clock i s (s.setPc v) [] := by apply Clock.of_same <;> simp
theorem Clock.of_setP (i : Bool) (s : State) (v : Flags) : Clock i s (s.setP v) [] := by apply Clock.of_same <;> simp
theorem Clock.of_setWaiting (i : Bool) (s : State) (v : Bool) : Clock i s (s.setWaiting v) [] := by
  apply Clock.of_same <;> simp
theorem Clock.of_setStopped (i : Bool) (s : State) (v : Bool) : Clock i s (s.setStopped v) [] := by
  apply Clock.of_same <;> simp
theorem Clock.of_setBus (i : Bool) (s : State) (b : Bus) (h : b.map = s.bus.map) : Clock i s (s.setBus b) [] := by
  apply Clock.of_same <;> simp [h]

/-! ### One lemma per event: its clock and what it writes -/

theorem State.idle_clock (s : State) : Clock s.p.i s s.idle [.idle] := Clock.of_tick s .idle

theorem State.readEvent_clock (s : State) (k : ReadKind) (a : Addr) :
    Clock s.p.i s (s.readEvent k a) [.read k a (s.readByte a)] := Clock.of_tick s _

theorem State.fetchByte_clock (s : State) (v : Byte) :
    Clock s.p.i s (s.fetchByte v) [.read .operand s.pc v] :=
  (Clock.of_tick s (.read .operand s.pc v)).trans (Clock.of_setPc _ _ _)

theorem State.writeEvent_clock (s : State) (k : WriteKind) (a : Addr) (v : Byte) :
    Clock s.p.i s (s.writeEvent k a v) [.write k a v] := by
  have h1 := Clock.of_setBus s.p.i s (s.bus.write a v) (by simp)
  have h2 := Clock.of_tick (s.setBus (s.bus.write a v)) (.write k a v)
  have e : eventReports (s.setBus (s.bus.write a v)).bus (.write k a v) = s.bus.writeReport a v :=
    Bus.writeReport_congr _ _ a v
  rw [e] at h2
  exact h1.trans h2

theorem State.push_clock (s : State) (v : Byte) :
    Clock s.p.i s (s.push v) [.write .data (stackAddr s.sp) v] :=
  (s.writeEvent_clock .data (stackAddr s.sp) v).trans (Clock.of_setSp _ _ _)

theorem State.pull_clock (s : State) :
    Clock s.p.i s s.pull [.read .data (stackAddr (s.sp + 1)) s.pulled] :=
  (Clock.of_setSp s.p.i s (s.sp + 1)).trans (State.readEvent_clock (s.setSp (s.sp + 1)) .data (stackAddr (s.sp + 1)))

/-! ### One more event at the end -/

section

variable {i : Bool} {s u : State} {evs : List Event}

theorem Clock.next {v : State} {more : List Event} (h : Clock i s u evs) (hi : u.p.i = i)
    (hv : Clock u.p.i u v more) : Clock i s v (evs ++ more) := h.trans (hi ▸ hv)

theorem Clock.idle (h : Clock i s u evs) (hi : u.p.i = i) : Clock i s u.idle (evs ++ [.idle]) :=
  h.next hi u.idle_clock

theorem Clock.readEvent (h : Clock i s u evs) (hi : u.p.i = i) (k : ReadKind) (a : Addr) :
    Clock i s (u.readEvent k a) (evs ++ [.read k a (u.readByte a)]) := h.next hi (u.readEvent_clock k a)

theorem Clock.fetchByte (h : Clock i s u evs) (hi : u.p.i = i) (v : Byte) :
    Clock i s (u.fetchByte v) (evs ++ [.read .operand u.pc v]) := h.next hi (u.fetchByte_clock v)

theorem Clock.writeEvent (h : Clock i s u evs) (hi : u.p.i = i) (k : WriteKind) (a : Addr) (v : Byte) :
    Clock i s (u.writeEvent k a v) (evs ++ [.write k a v]) := h.next hi (u.writeEvent_clock k a v)

theorem Clock.push (h : Clock i s u evs) (hi : u.p.i = i) (v : Byte) :
    Clock i s (u.push v) (evs ++ [.write .data (stackAddr u.sp) v]) := h.next hi (u.push_clock v)

theorem Clock.pull (h : Clock i s u evs) (hi : u.p.i = i) :
    Clock i s u.pull (evs ++ [.read .data (stackAddr (u.sp + 1)) u.pulled]) := h.next hi u.pull_clock

theorem Clock.same {v : State} (h : Clock i s u evs) (hv : Clock i u v []) : Clock i s v evs := by
  simpa using h.trans hv

theorem Clock.setA (h : Clock i s u evs) (v : Byte) : Clock i s (u.setA v) evs := h.same (.of_setA i u v)
theorem Clock.setX (h : Clock i s u evs) (v : Byte) : Clock i s (u.setX v) evs := h.same (.of_setX i u v)
theorem Clock.setY (h : Clock i s u evs) (v : Byte) : Clock i s (u.setY v) evs := h.same (.of_setY i u v)
theorem Clock.setSp (h : Clock i s u evs) (v : Byte) : Clock i s (u.setSp v) evs := h.same (.of_setSp i u v)
theorem Clock.setPc (h : Clock i s u evs) (v : Addr) : Clock i s (u.setPc v) evs := h.same (.of_setPc i u v)
theorem Clock.setP (h : Clock i s u evs) (v : Flags) : Clock i s (u.setP v) evs := h.same (.of_setP i u v)
theorem Clock.setWaiting (h : Clock i s u evs) (v : Bool) : Clock i s (u.setWaiting v) evs :=
  h.same (.of_setWaiting i u v)
theorem Clock.setStopped (h : Clock i s u evs) (v : Bool) : Clock i s (u.setStopped v) evs :=
  h.same (.of_setStopped i u v)

end

/-! ### What each event writes -/

@[simp] theorem State.idle_arch (s : State) : s.idle.arch = s.arch := rfl
@[simp] theorem State.readEvent_arch (s : State) (k : ReadKind) (a : Addr) : (s.readEvent k a).arch = s.arch := rfl
@[simp] theorem State.fetchByte_arch (s : State) (v : Byte) :
    (s.fetchByte v).arch = { s.arch with pc := s.pc + 1 } := rfl
@[simp] theorem State.writeEvent_arch (s : State) (k : WriteKind) (a : Addr) (v : Byte) :
    (s.writeEvent k a v).arch = { s.arch with bus := s.bus.write a v } := rfl
@[simp] theorem State.push_arch (s : State) (v : Byte) :
    (s.push v).arch = { s.arch with bus := s.bus.write (stackAddr s.sp) v, sp := s.sp - 1 } := rfl
@[simp] theorem State.pull_arch (s : State) : s.pull.arch = { s.arch with sp := s.sp + 1 } := rfl
@[simp] theorem State.edgeCheck_arch (s : State) (k : Nat) : (s.edgeCheck k).arch = s.arch := rfl
@[simp] theorem State.standardSample_arch (s : State) : s.standardSample.arch = s.arch := rfl

/-! Fields after an event. -/

@[simp] theorem State.idle_a (s : State) : s.idle.a = s.a := rfl
@[simp] theorem State.idle_x (s : State) : s.idle.x = s.x := rfl
@[simp] theorem State.idle_y (s : State) : s.idle.y = s.y := rfl
@[simp] theorem State.idle_sp (s : State) : s.idle.sp = s.sp := rfl
@[simp] theorem State.idle_pc (s : State) : s.idle.pc = s.pc := rfl
@[simp] theorem State.idle_p (s : State) : s.idle.p = s.p := rfl
@[simp] theorem State.idle_waiting (s : State) : s.idle.waiting = s.waiting := rfl
@[simp] theorem State.idle_stopped (s : State) : s.idle.stopped = s.stopped := rfl
@[simp] theorem State.idle_bus (s : State) : s.idle.bus = s.bus := rfl
@[simp] theorem State.idle_reserved (s : State) : s.idle.reserved = s.reserved := rfl
@[simp] theorem State.idle_opcode5C (s : State) : s.idle.opcode5C = s.opcode5C := rfl
@[simp] theorem State.idle_agents (s : State) : s.idle.agents = s.agents := rfl
@[simp] theorem State.idle_resetRequest (s : State) : s.idle.resetRequest = s.resetRequest := rfl
@[simp] theorem State.readEvent_a (s : State) (k : ReadKind) (b : Addr) : (s.readEvent k b).a = s.a := rfl
@[simp] theorem State.readEvent_x (s : State) (k : ReadKind) (b : Addr) : (s.readEvent k b).x = s.x := rfl
@[simp] theorem State.readEvent_y (s : State) (k : ReadKind) (b : Addr) : (s.readEvent k b).y = s.y := rfl
@[simp] theorem State.readEvent_sp (s : State) (k : ReadKind) (b : Addr) : (s.readEvent k b).sp = s.sp := rfl
@[simp] theorem State.readEvent_pc (s : State) (k : ReadKind) (b : Addr) : (s.readEvent k b).pc = s.pc := rfl
@[simp] theorem State.readEvent_p (s : State) (k : ReadKind) (b : Addr) : (s.readEvent k b).p = s.p := rfl
@[simp] theorem State.readEvent_waiting (s : State) (k : ReadKind) (b : Addr) : (s.readEvent k b).waiting = s.waiting := rfl
@[simp] theorem State.readEvent_stopped (s : State) (k : ReadKind) (b : Addr) : (s.readEvent k b).stopped = s.stopped := rfl
@[simp] theorem State.readEvent_bus (s : State) (k : ReadKind) (b : Addr) : (s.readEvent k b).bus = s.bus := rfl
@[simp] theorem State.readEvent_reserved (s : State) (k : ReadKind) (b : Addr) : (s.readEvent k b).reserved = s.reserved := rfl
@[simp] theorem State.readEvent_opcode5C (s : State) (k : ReadKind) (b : Addr) : (s.readEvent k b).opcode5C = s.opcode5C := rfl
@[simp] theorem State.readEvent_agents (s : State) (k : ReadKind) (b : Addr) : (s.readEvent k b).agents = s.agents := rfl
@[simp] theorem State.readEvent_resetRequest (s : State) (k : ReadKind) (b : Addr) : (s.readEvent k b).resetRequest = s.resetRequest := rfl
@[simp] theorem State.fetchByte_a (s : State) (v : Byte) : (s.fetchByte v).a = s.a := rfl
@[simp] theorem State.fetchByte_x (s : State) (v : Byte) : (s.fetchByte v).x = s.x := rfl
@[simp] theorem State.fetchByte_y (s : State) (v : Byte) : (s.fetchByte v).y = s.y := rfl
@[simp] theorem State.fetchByte_sp (s : State) (v : Byte) : (s.fetchByte v).sp = s.sp := rfl
@[simp] theorem State.fetchByte_pc (s : State) (v : Byte) : (s.fetchByte v).pc = s.pc + 1 := rfl
@[simp] theorem State.fetchByte_p (s : State) (v : Byte) : (s.fetchByte v).p = s.p := rfl
@[simp] theorem State.fetchByte_waiting (s : State) (v : Byte) : (s.fetchByte v).waiting = s.waiting := rfl
@[simp] theorem State.fetchByte_stopped (s : State) (v : Byte) : (s.fetchByte v).stopped = s.stopped := rfl
@[simp] theorem State.fetchByte_bus (s : State) (v : Byte) : (s.fetchByte v).bus = s.bus := rfl
@[simp] theorem State.fetchByte_reserved (s : State) (v : Byte) : (s.fetchByte v).reserved = s.reserved := rfl
@[simp] theorem State.fetchByte_opcode5C (s : State) (v : Byte) : (s.fetchByte v).opcode5C = s.opcode5C := rfl
@[simp] theorem State.fetchByte_agents (s : State) (v : Byte) : (s.fetchByte v).agents = s.agents := rfl
@[simp] theorem State.fetchByte_resetRequest (s : State) (v : Byte) : (s.fetchByte v).resetRequest = s.resetRequest := rfl
@[simp] theorem State.writeEvent_a (s : State) (k : WriteKind) (b : Addr) (v : Byte) : (s.writeEvent k b v).a = s.a := rfl
@[simp] theorem State.writeEvent_x (s : State) (k : WriteKind) (b : Addr) (v : Byte) : (s.writeEvent k b v).x = s.x := rfl
@[simp] theorem State.writeEvent_y (s : State) (k : WriteKind) (b : Addr) (v : Byte) : (s.writeEvent k b v).y = s.y := rfl
@[simp] theorem State.writeEvent_sp (s : State) (k : WriteKind) (b : Addr) (v : Byte) : (s.writeEvent k b v).sp = s.sp := rfl
@[simp] theorem State.writeEvent_pc (s : State) (k : WriteKind) (b : Addr) (v : Byte) : (s.writeEvent k b v).pc = s.pc := rfl
@[simp] theorem State.writeEvent_p (s : State) (k : WriteKind) (b : Addr) (v : Byte) : (s.writeEvent k b v).p = s.p := rfl
@[simp] theorem State.writeEvent_waiting (s : State) (k : WriteKind) (b : Addr) (v : Byte) : (s.writeEvent k b v).waiting = s.waiting := rfl
@[simp] theorem State.writeEvent_stopped (s : State) (k : WriteKind) (b : Addr) (v : Byte) : (s.writeEvent k b v).stopped = s.stopped := rfl
@[simp] theorem State.writeEvent_bus (s : State) (k : WriteKind) (b : Addr) (v : Byte) : (s.writeEvent k b v).bus = s.bus.write b v := rfl
@[simp] theorem State.writeEvent_reserved (s : State) (k : WriteKind) (b : Addr) (v : Byte) : (s.writeEvent k b v).reserved = s.reserved := rfl
@[simp] theorem State.writeEvent_opcode5C (s : State) (k : WriteKind) (b : Addr) (v : Byte) : (s.writeEvent k b v).opcode5C = s.opcode5C := rfl
@[simp] theorem State.writeEvent_agents (s : State) (k : WriteKind) (b : Addr) (v : Byte) : (s.writeEvent k b v).agents = s.agents := rfl
@[simp] theorem State.writeEvent_resetRequest (s : State) (k : WriteKind) (b : Addr) (v : Byte) : (s.writeEvent k b v).resetRequest = s.resetRequest := rfl
@[simp] theorem State.push_a (s : State) (v : Byte) : (s.push v).a = s.a := rfl
@[simp] theorem State.push_x (s : State) (v : Byte) : (s.push v).x = s.x := rfl
@[simp] theorem State.push_y (s : State) (v : Byte) : (s.push v).y = s.y := rfl
@[simp] theorem State.push_sp (s : State) (v : Byte) : (s.push v).sp = s.sp - 1 := rfl
@[simp] theorem State.push_pc (s : State) (v : Byte) : (s.push v).pc = s.pc := rfl
@[simp] theorem State.push_p (s : State) (v : Byte) : (s.push v).p = s.p := rfl
@[simp] theorem State.push_waiting (s : State) (v : Byte) : (s.push v).waiting = s.waiting := rfl
@[simp] theorem State.push_stopped (s : State) (v : Byte) : (s.push v).stopped = s.stopped := rfl
@[simp] theorem State.push_bus (s : State) (v : Byte) : (s.push v).bus = s.bus.write (stackAddr s.sp) v := rfl
@[simp] theorem State.push_reserved (s : State) (v : Byte) : (s.push v).reserved = s.reserved := rfl
@[simp] theorem State.push_opcode5C (s : State) (v : Byte) : (s.push v).opcode5C = s.opcode5C := rfl
@[simp] theorem State.push_agents (s : State) (v : Byte) : (s.push v).agents = s.agents := rfl
@[simp] theorem State.push_resetRequest (s : State) (v : Byte) : (s.push v).resetRequest = s.resetRequest := rfl
@[simp] theorem State.pull_a (s : State) : s.pull.a = s.a := rfl
@[simp] theorem State.pull_x (s : State) : s.pull.x = s.x := rfl
@[simp] theorem State.pull_y (s : State) : s.pull.y = s.y := rfl
@[simp] theorem State.pull_sp (s : State) : s.pull.sp = s.sp + 1 := rfl
@[simp] theorem State.pull_pc (s : State) : s.pull.pc = s.pc := rfl
@[simp] theorem State.pull_p (s : State) : s.pull.p = s.p := rfl
@[simp] theorem State.pull_waiting (s : State) : s.pull.waiting = s.waiting := rfl
@[simp] theorem State.pull_stopped (s : State) : s.pull.stopped = s.stopped := rfl
@[simp] theorem State.pull_bus (s : State) : s.pull.bus = s.bus := rfl
@[simp] theorem State.pull_reserved (s : State) : s.pull.reserved = s.reserved := rfl
@[simp] theorem State.pull_opcode5C (s : State) : s.pull.opcode5C = s.opcode5C := rfl
@[simp] theorem State.pull_agents (s : State) : s.pull.agents = s.agents := rfl
@[simp] theorem State.pull_resetRequest (s : State) : s.pull.resetRequest = s.resetRequest := rfl
@[simp] theorem State.opcode_a (s : State) (v : Byte) : (s.opcode v).a = s.a := rfl
@[simp] theorem State.opcode_x (s : State) (v : Byte) : (s.opcode v).x = s.x := rfl
@[simp] theorem State.opcode_y (s : State) (v : Byte) : (s.opcode v).y = s.y := rfl
@[simp] theorem State.opcode_sp (s : State) (v : Byte) : (s.opcode v).sp = s.sp := rfl
@[simp] theorem State.opcode_pc (s : State) (v : Byte) : (s.opcode v).pc = s.pc + 1 := rfl
@[simp] theorem State.opcode_p (s : State) (v : Byte) : (s.opcode v).p = s.p := rfl
@[simp] theorem State.opcode_waiting (s : State) (v : Byte) : (s.opcode v).waiting = s.waiting := rfl
@[simp] theorem State.opcode_stopped (s : State) (v : Byte) : (s.opcode v).stopped = s.stopped := rfl
@[simp] theorem State.opcode_bus (s : State) (v : Byte) : (s.opcode v).bus = s.bus := rfl
@[simp] theorem State.opcode_reserved (s : State) (v : Byte) : (s.opcode v).reserved = s.reserved := rfl
@[simp] theorem State.opcode_opcode5C (s : State) (v : Byte) : (s.opcode v).opcode5C = s.opcode5C := rfl
@[simp] theorem State.opcode_agents (s : State) (v : Byte) : (s.opcode v).agents = s.agents := rfl
@[simp] theorem State.opcode_resetRequest (s : State) (v : Byte) : (s.opcode v).resetRequest = s.resetRequest := rfl
@[simp] theorem State.edgeCheck_a (s : State) (k : Nat) : (s.edgeCheck k).a = s.a := rfl
@[simp] theorem State.edgeCheck_x (s : State) (k : Nat) : (s.edgeCheck k).x = s.x := rfl
@[simp] theorem State.edgeCheck_y (s : State) (k : Nat) : (s.edgeCheck k).y = s.y := rfl
@[simp] theorem State.edgeCheck_sp (s : State) (k : Nat) : (s.edgeCheck k).sp = s.sp := rfl
@[simp] theorem State.edgeCheck_pc (s : State) (k : Nat) : (s.edgeCheck k).pc = s.pc := rfl
@[simp] theorem State.edgeCheck_p (s : State) (k : Nat) : (s.edgeCheck k).p = s.p := rfl
@[simp] theorem State.edgeCheck_waiting (s : State) (k : Nat) : (s.edgeCheck k).waiting = s.waiting := rfl
@[simp] theorem State.edgeCheck_stopped (s : State) (k : Nat) : (s.edgeCheck k).stopped = s.stopped := rfl
@[simp] theorem State.edgeCheck_bus (s : State) (k : Nat) : (s.edgeCheck k).bus = s.bus := rfl
@[simp] theorem State.edgeCheck_reserved (s : State) (k : Nat) : (s.edgeCheck k).reserved = s.reserved := rfl
@[simp] theorem State.edgeCheck_opcode5C (s : State) (k : Nat) : (s.edgeCheck k).opcode5C = s.opcode5C := rfl
@[simp] theorem State.edgeCheck_agents (s : State) (k : Nat) : (s.edgeCheck k).agents = s.agents := rfl
@[simp] theorem State.edgeCheck_resetRequest (s : State) (k : Nat) : (s.edgeCheck k).resetRequest = s.resetRequest := rfl
@[simp] theorem State.standardSample_a (s : State) : s.standardSample.a = s.a := rfl
@[simp] theorem State.standardSample_x (s : State) : s.standardSample.x = s.x := rfl
@[simp] theorem State.standardSample_y (s : State) : s.standardSample.y = s.y := rfl
@[simp] theorem State.standardSample_sp (s : State) : s.standardSample.sp = s.sp := rfl
@[simp] theorem State.standardSample_pc (s : State) : s.standardSample.pc = s.pc := rfl
@[simp] theorem State.standardSample_p (s : State) : s.standardSample.p = s.p := rfl
@[simp] theorem State.standardSample_waiting (s : State) : s.standardSample.waiting = s.waiting := rfl
@[simp] theorem State.standardSample_stopped (s : State) : s.standardSample.stopped = s.stopped := rfl
@[simp] theorem State.standardSample_bus (s : State) : s.standardSample.bus = s.bus := rfl
@[simp] theorem State.standardSample_reserved (s : State) : s.standardSample.reserved = s.reserved := rfl
@[simp] theorem State.standardSample_opcode5C (s : State) : s.standardSample.opcode5C = s.opcode5C := rfl
@[simp] theorem State.standardSample_agents (s : State) : s.standardSample.agents = s.agents := rfl
@[simp] theorem State.standardSample_resetRequest (s : State) : s.standardSample.resetRequest = s.resetRequest := rfl

/-! The inputs after an event. -/

@[simp] theorem State.idle_linesAt (s : State) (k : Nat) :
    s.idle.linesAt k = s.linesAt (k + 1) := by
  simp [State.idle]

@[simp] theorem State.readEvent_linesAt (s : State) (m : ReadKind) (b : Addr) (k : Nat) :
    (s.readEvent m b).linesAt k = s.linesAt (k + 1) := by
  simp [State.readEvent]

@[simp] theorem State.fetchByte_linesAt (s : State) (v : Byte) (k : Nat) :
    (s.fetchByte v).linesAt k = s.linesAt (k + 1) := by
  simp [State.fetchByte]

@[simp] theorem State.writeEvent_linesAt (s : State) (m : WriteKind) (b : Addr) (v : Byte) (k : Nat) :
    (s.writeEvent m b v).linesAt k = s.linesAt (k + 1) := by
  simp [State.writeEvent]

@[simp] theorem State.push_linesAt (s : State) (v : Byte) (k : Nat) :
    (s.push v).linesAt k = s.linesAt (k + 1) := by
  simp [State.push, State.writeEvent]

@[simp] theorem State.pull_linesAt (s : State) (k : Nat) :
    s.pull.linesAt k = s.linesAt (k + 1) := by
  simp [State.pull, State.readEvent]

@[simp] theorem State.opcode_linesAt (s : State) (v : Byte) (k : Nat) :
    (s.opcode v).linesAt k = s.linesAt (k + 1) := by
  simp [State.opcode, State.fetchByte]

/-- A byte read later is the byte of the same bus at the shifted event. -/
theorem Clock.byteAt {i : Bool} {s u : State} {evs : List Event} (h : Clock i s u evs) (hb : u.bus = s.bus) (k : Nat)
    (a : Addr) : u.byteAt k a = s.byteAt (k + evs.length) a := by
  simp only [State.byteAt, hb, h.lines]

/-! ### The interrupt sample -/

theorem State.samplesOf_getD (s : State) (i : Bool) {n k : Nat} (h1 : 1 ≤ k) (h2 : k ≤ n) :
    (s.samplesOf i n).getD (k - 1) false = s.sampleAfter i k := by
  have h3 : k - 1 < n := by omega
  have h4 : k - 1 + 1 = k := by omega
  simp [State.samplesOf, h3, h4]

@[simp] theorem State.samplesOf_length (s : State) (i : Bool) (n : Nat) : (s.samplesOf i n).length = n := by
  simp [State.samplesOf]

/-- EdgeCheck(k) of a step whose events so far are `evs`, all with I equal to `i` (41_accessors R213). -/
theorem Clock.edgeCheck_pending {i : Bool} {s u : State} {evs : List Event} (h : Clock i s u evs) (hs : s.samples = [])
    {k : Nat} (h1 : 1 ≤ k) (h2 : k ≤ evs.length) : (u.edgeCheck k).pending = (s.pending || s.sampleAfter i k) := by
  simp only [State.edgeCheck, State.setPending_pending, h.pending, h.samples, hs, List.nil_append,
    State.samplesOf_getD s i h1 h2]

/-- The standard sample of a step whose events are `evs`, all with I equal to `i` (41_accessors R214). -/
theorem Clock.standardSample_pending {i : Bool} {s u : State} {evs : List Event} (h : Clock i s u evs)
    (hs : s.samples = []) (hn : 1 ≤ evs.length) :
    u.standardSample.pending = (s.pending || s.sampleAfter i (max (evs.length - 1) 1)) := by
  have hl : u.samples.length = evs.length := by rw [h.samples, hs]; simp
  simp only [State.standardSample, hl]
  exact h.edgeCheck_pending hs (by omega) (by omega)

/-! ### The inputs do not depend on the observations -/

@[simp] theorem State.beginStep_prevAfter (s : State) (o : StepOutcome) (k : Nat) :
    (s.beginStep o).prevAfter k = s.prevAfter k := by
  cases k <;> rfl

@[simp] theorem State.beginStep_edgeAfter (s : State) (o : StepOutcome) (k : Nat) :
    (s.beginStep o).edgeAfter k = s.edgeAfter k := by
  induction k with
  | zero => rfl
  | succ k ih =>
    simp only [State.edgeAfter, ih, State.beginStep_prevAfter]
    rfl

@[simp] theorem State.beginStep_sampleAfter (s : State) (o : StepOutcome) (i : Bool) (k : Nat) :
    (s.beginStep o).sampleAfter i k = s.sampleAfter i k := by
  simp only [State.sampleAfter, State.beginStep_edgeAfter]
  rfl

@[simp] theorem State.beginStep_branchPending (s : State) (o : StepOutcome) (b : Nat) (pc target : Addr) (taken : Bool) :
    (s.beginStep o).branchPending b pc target taken = s.branchPending b pc target taken := by
  simp only [State.branchPending, State.beginStep_sampleAfter]
  rfl

end Sys2Proof.Machine
end

