-- ==== Sys2Proof/Laws/Decode.lean ====
section
/-! SUPPORT. Decoding three bytes (30_encoding R140, R154). -/

namespace Sys2Proof

/-- Opcodes, one by one. -/
theorem opcode_cases {P : Byte → Prop} (h : ∀ n : Nat, n < 256 → P (BitVec.ofNat 8 n)) (op : Byte) : P op := by
  have e : op = BitVec.ofNat 8 op.toNat := by simp
  rw [e]
  exact h op.toNat op.isLt

/-- Three bytes hold an instruction: `decodeBytes` of them. -/
theorem decode_three (op b c : Byte) (rest : List Byte) :
    decode (op :: b :: c :: rest) = .ok (decodeBytes op b c, (op :: b :: c :: rest).drop (lengthOf op)) := by
  refine opcode_cases (P := fun op =>
    decode (op :: b :: c :: rest) = .ok (decodeBytes op b c, (op :: b :: c :: rest).drop (lengthOf op))) ?_ op
  intro n hn
  interval_cases n <;> rfl

/-- What a table word decodes to. -/
theorem decodeTableWord_eq (nbits w : Nat) :
    decodeTableWord nbits w
      = some (decodeBytes (wordByte (w % 2 ^ nbits) 0) (wordByte (w % 2 ^ nbits) 1) (wordByte (w % 2 ^ nbits) 2)) := by
  simp only [decodeTableWord, tableBytes, decode_three]

end Sys2Proof
end

