-- ==== Sys2Proof/Laws/Modes.lean ====
section
/-! SUPPORT. What a mode's fetch does: its events are `fetchTrace`, it advances PC past the operand bytes and writes
nothing else (40_addressing R160, R184). -/

namespace Sys2Proof.Machine

theorem State.fetchWord_clock (s : State) (a : Addr) : Clock s.p.i s (s.fetchWord a) (s.wordEvents a) := by
  have h := (s.fetchByte_clock (loByte a)).fetchByte rfl (hiByte a)
  simpa [State.wordEvents, State.operandEvent, State.fetchWord] using h

@[simp] theorem State.fetchWord_arch (s : State) (a : Addr) :
    (s.fetchWord a).arch = { s.arch with pc := s.pc + 2 } := by
  simp [State.fetchWord, BitVec.add_assoc]

theorem State.indexCycle_clock (s : State) (slow crossed : Bool) :
    Clock s.p.i s (s.indexCycle slow crossed) (indexTrace slow crossed) := by
  unfold State.indexCycle indexTrace
  split
  · exact s.idle_clock
  · exact Clock.refl _ s

@[simp] theorem State.indexCycle_arch (s : State) (slow crossed : Bool) :
    (s.indexCycle slow crossed).arch = s.arch := by
  unfold State.indexCycle
  split <;> rfl

theorem State.zpPointerEvents_clock (s : State) (p : Byte) :
    Clock s.p.i s (s.zpPointerEvents p) (s.zpPointerTrace 1 p) := by
  have h := (s.readEvent_clock .pointer (zext16 p)).readEvent rfl .pointer (zext16 (p + 1))
  simpa [State.zpPointerEvents, State.zpPointerTrace, State.readByte, State.byteAt] using h

@[simp] theorem State.zpPointerEvents_arch (s : State) (p : Byte) : (s.zpPointerEvents p).arch = s.arch := rfl

theorem State.absPointerEvents_clock (s : State) (p : Addr) :
    Clock s.p.i s (s.absPointerEvents p) (s.absPointerTrace 1 p) := by
  have h := (s.readEvent_clock .pointer p).readEvent rfl .pointer (p + 1)
  simpa [State.absPointerEvents, State.absPointerTrace, State.readByte, State.byteAt] using h

@[simp] theorem State.absPointerEvents_arch (s : State) (p : Addr) : (s.absPointerEvents p).arch = s.arch := rfl

theorem Clock.zpPointerTrace {i : Bool} {s u : State} {evs : List Event} (h : Clock i s u evs) (hb : u.bus = s.bus)
    (k : Nat) (p : Byte) : u.zpPointerTrace k p = s.zpPointerTrace (k + evs.length) p := by
  simp only [State.zpPointerTrace, h.byteAt hb]
  rw [show k + 1 + evs.length = k + evs.length + 1 by omega]

theorem Clock.absPointerTrace {i : Bool} {s u : State} {evs : List Event} (h : Clock i s u evs) (hb : u.bus = s.bus)
    (k : Nat) (p : Addr) : u.absPointerTrace k p = s.absPointerTrace (k + evs.length) p := by
  simp only [State.absPointerTrace, h.byteAt hb]
  rw [show k + 1 + evs.length = k + evs.length + 1 by omega]

/-- PC after a mode's fetch. -/
def Mode.pcAfter (m : Mode) (s : State) : Addr := s.pc + BitVec.ofNat 16 m.operandBytes

/-- A mode's fetch advances PC past its operand bytes and writes nothing else. -/
theorem Mode.events_arch (m : Mode) (s : State) : (m.events s).arch = { s.arch with pc := m.pcAfter s } := by
  cases m <;> simp [Mode.events, Mode.pcAfter, Mode.operandBytes, BitVec.add_assoc] <;> rfl

/-- The events of a mode's fetch are `fetchTrace`. -/
theorem Mode.events_clock (m : Mode) (s : State) : Clock s.p.i s (m.events s) (m.fetchTrace s) := by
  have hz (z : Byte) := s.fetchByte_clock z
  cases m with
  | imp => exact s.idle_clock
  | acc => exact s.idle_clock
  | stk => exact s.idle_clock
  | nop1 => exact Clock.refl _ s
  | imm v => simpa [Mode.events, Mode.fetchTrace, State.operandEvent] using hz v
  | zp z => simpa [Mode.events, Mode.fetchTrace, State.operandEvent] using hz z
  | zpx z => simpa [Mode.events, Mode.fetchTrace, State.operandEvent] using (hz z).idle rfl
  | zpy z => simpa [Mode.events, Mode.fetchTrace, State.operandEvent] using (hz z).idle rfl
  | abs a => exact s.fetchWord_clock a
  | absx a slow => exact (s.fetchWord_clock a).next rfl (State.indexCycle_clock _ slow _)
  | absy a slow => exact (s.fetchWord_clock a).next rfl (State.indexCycle_clock _ slow _)
  | izx z =>
    have h1 := (hz z).idle rfl
    have h2 := h1.next rfl (State.zpPointerEvents_clock _ (z + s.x))
    rw [h1.zpPointerTrace rfl] at h2
    simpa [Mode.events, Mode.fetchTrace, State.operandEvent] using h2
  | izy z slow =>
    have h1 := (hz z).next rfl (State.zpPointerEvents_clock _ z)
    rw [(hz z).zpPointerTrace rfl] at h1
    have h2 := h1.next rfl (State.indexCycle_clock _ slow (pageCrossed ((Mode.izy z slow).base s) ((Mode.izy z slow).address s)))
    simpa [Mode.events, Mode.fetchTrace, State.operandEvent] using h2
  | izp z =>
    have h1 := (hz z).next rfl (State.zpPointerEvents_clock _ z)
    rw [(hz z).zpPointerTrace rfl] at h1
    simpa [Mode.events, Mode.fetchTrace, State.operandEvent] using h1
  | ind a =>
    have h1 := (s.fetchWord_clock a).idle rfl
    have h2 := h1.next rfl (State.absPointerEvents_clock _ a)
    rw [h1.absPointerTrace rfl] at h2
    simpa [Mode.events, Mode.fetchTrace, State.wordEvents] using h2
  | iax a =>
    have h1 := (s.fetchWord_clock a).idle rfl
    have h2 := h1.next rfl (State.absPointerEvents_clock _ (a + zext16 s.x))
    rw [h1.absPointerTrace rfl] at h2
    simpa [Mode.events, Mode.fetchTrace, State.wordEvents] using h2
  | rel off => simpa [Mode.events, Mode.fetchTrace, State.operandEvent] using hz (offsetByte off)
  | zpr z off =>
    have h1 := (hz z).readEvent rfl .data (zext16 z)
    have h2 := (h1.idle rfl).fetchByte rfl (offsetByte off)
    simpa [Mode.events, Mode.fetchTrace, State.operandEvent, State.readByte, State.byteAt] using h2
  | jsr lo => simpa [Mode.events, Mode.fetchTrace, State.operandEvent] using hz lo
  | brk sig => simpa [Mode.events, Mode.fetchTrace, State.operandEvent] using hz sig

/-! ### The opcode event and the fetch together -/

theorem State.opcode_clock (s : State) (op : Byte) :
    Clock s.p.i (s.beginStep (.executed op)) (s.opcode op) [.read .operand s.pc op] :=
  State.fetchByte_clock (s.beginStep (.executed op)) op

/-- The state after the opcode event and the mode's fetch. -/
theorem Mode.step_clock (m : Mode) (s : State) (op : Byte) :
    Clock s.p.i (s.beginStep (.executed op)) (m.events (s.opcode op))
      (.read .operand s.pc op :: m.fetchTrace (s.opcode op)) :=
  (s.opcode_clock op).next rfl (m.events_clock (s.opcode op))

/-- PC after the opcode and the operand bytes of a mode. -/
theorem Mode.step_arch (m : Mode) (s : State) (op : Byte) :
    (m.events (s.opcode op)).arch = { s.arch with pc := s.pc + BitVec.ofNat 16 (1 + m.operandBytes) } := by
  rw [m.events_arch]
  simp only [Mode.pcAfter, State.opcode_pc, BitVec.ofNat_add, ← BitVec.add_assoc]
  rfl

end Sys2Proof.Machine
end

