-- ==== Sys2Proof/Laws/Steps.lean ====
section
/-! SUPPORT. One lemma for each frame of an instruction step: what it answers, what the state before its sample holds,
and which events it has made. `u` is the state after the last event, before the interrupt sample. -/

namespace Sys2Proof.Machine

/-- The events of an instruction step before its operation. -/
def Mode.stepTrace (m : Mode) (s : State) (op : Byte) : List Event :=
  .read .operand s.pc op :: m.fetchTrace (s.opcode op)

theorem Mode.readByte_afterFetch (m : Mode) (s : State) :
    (m.events s).readByte (m.address s) = m.memoryByte s := by
  have hb : (m.events s).bus = s.bus := congrArg Arch.bus (m.events_arch s)
  rw [State.readByte, (m.events_clock s).byteAt hb, Nat.add_comm]
  rfl

theorem Mode.step_p (m : Mode) (s : State) (op : Byte) : (m.events (s.opcode op)).p = s.p :=
  congrArg Arch.p (m.step_arch s op)

theorem Mode.step_bus (m : Mode) (s : State) (op : Byte) : (m.events (s.opcode op)).bus = s.bus :=
  congrArg Arch.bus (m.step_arch s op)

theorem Mode.step_pc (m : Mode) (s : State) (op : Byte) : (m.events (s.opcode op)).pc = m.nextPc s :=
  congrArg Arch.pc (m.step_arch s op)

theorem Mode.step_a (m : Mode) (s : State) (op : Byte) : (m.events (s.opcode op)).a = s.a :=
  congrArg Arch.a (m.step_arch s op)

theorem Mode.step_x (m : Mode) (s : State) (op : Byte) : (m.events (s.opcode op)).x = s.x :=
  congrArg Arch.x (m.step_arch s op)

theorem Mode.step_y (m : Mode) (s : State) (op : Byte) : (m.events (s.opcode op)).y = s.y :=
  congrArg Arch.y (m.step_arch s op)

theorem Mode.step_sp (m : Mode) (s : State) (op : Byte) : (m.events (s.opcode op)).sp = s.sp :=
  congrArg Arch.sp (m.step_arch s op)

/-- A data read through a memory mode. -/
theorem readInstr_memory (op : Byte) (m : Mode) (use : Byte → State → State) (s : State) (hm : m.isMemory = true) :
    ∃ u, readInstr op m use s = .next (use (m.memoryByte (s.opcode op)) u).standardSample
      ∧ u.arch = { s.arch with pc := m.nextPc s }
      ∧ Clock s.p.i (s.beginStep (.executed op)) u
          (m.stepTrace s op ++ [.read .data (m.address (s.opcode op)) (m.memoryByte (s.opcode op))]) := by
  refine ⟨(m.events (s.opcode op)).readEvent .data (m.address (s.opcode op)), ?_, m.step_arch s op, ?_⟩
  · rw [← m.readByte_afterFetch]
    cases m <;> first | rfl | (simp [Mode.isMemory] at hm)
  · have h := (m.step_clock s op).readEvent (by rw [m.step_p]) .data (m.address (s.opcode op))
    rwa [m.readByte_afterFetch] at h

/-- An immediate read. -/
theorem readInstr_immediate (op v : Byte) (use : Byte → State → State) (s : State) :
    ∃ u, readInstr op (.imm v) use s = .next (use v u).standardSample
      ∧ u.arch = { s.arch with pc := (Mode.imm v).nextPc s }
      ∧ Clock s.p.i (s.beginStep (.executed op)) u ((Mode.imm v).stepTrace s op) :=
  ⟨_, rfl, (Mode.imm v).step_arch s op, (Mode.imm v).step_clock s op⟩

/-- A read through any readable mode of the class read (41_accessors R201, R206). -/
theorem readInstr_spec (op : Byte) (m : Mode) (use : Byte → State → State) (s : State)
    (hm : m.isMemory = true ∨ ∃ v, m = .imm v) :
    ∃ u, readInstr op m use s = .next (use (m.operandByte (s.opcode op)) u).standardSample
      ∧ u.arch = { s.arch with pc := m.nextPc s }
      ∧ Clock s.p.i (s.beginStep (.executed op)) u (m.stepTrace s op ++ m.readTrace (s.opcode op)) := by
  obtain hm | ⟨v, rfl⟩ := hm
  · have h := readInstr_memory op m use s hm
    cases m <;> first | exact h | (simp [Mode.isMemory] at hm)
  · simpa [Mode.readTrace, Mode.operandByte] using readInstr_immediate op v use s

/-- A store through a memory mode (41_accessors R202). -/
theorem writeInstr_spec (op : Byte) (m : Mode) (v : Byte) (s : State) (hm : m.isMemory = true) :
    ∃ u, writeInstr op m v s = .next u.standardSample
      ∧ u.arch = { s.arch with pc := m.nextPc s, bus := s.bus.write (m.address (s.opcode op)) v }
      ∧ Clock s.p.i (s.beginStep (.executed op)) u
          (m.stepTrace s op ++ [.write .data (m.address (s.opcode op)) v]) := by
  refine ⟨(m.events (s.opcode op)).writeEvent .data (m.address (s.opcode op)) v, ?_, ?_, ?_⟩
  · cases m <;> first | rfl | (simp [Mode.isMemory] at hm)
  · rw [State.writeEvent_arch, m.step_arch, m.step_bus]; rfl
  · exact (m.step_clock s op).writeEvent (by rw [m.step_p]) .data _ v

/-- A read-modify-write through a memory mode (41_accessors R203). -/
theorem rmwInstr_memory (op : Byte) (m : Mode) (f : Byte → Flags → Byte × Flags) (s : State) (hm : m.isMemory = true) :
    ∃ u, rmwInstr op m f s = .next u.standardSample
      ∧ u.arch = { s.arch with
          pc := m.nextPc s
          bus := (s.bus.write (m.address (s.opcode op)) (m.memoryByte (s.opcode op))).write (m.address (s.opcode op))
            (f (m.memoryByte (s.opcode op)) s.p).1
          p := (f (m.memoryByte (s.opcode op)) s.p).2 }
      ∧ Clock s.p.i (s.beginStep (.executed op)) u
          (m.stepTrace s op ++ m.rmwTrace (s.opcode op) (f (m.memoryByte (s.opcode op)) s.p).1) := by
  refine ⟨(m.events (s.opcode op)).rmwMemory (m.address (s.opcode op)) f, ?_, ?_, ?_⟩
  · cases m <;> first | rfl | (simp [Mode.isMemory] at hm)
  · simp only [State.rmwMemory, m.readByte_afterFetch, m.step_p, State.setP_arch, State.writeEvent_arch,
      State.readEvent_arch, m.step_arch, State.writeEvent_bus, State.readEvent_bus, m.step_bus, Mode.nextPc]
  · have hp := congrArg Flags.i (m.step_p s op)
    have h := (((m.step_clock s op).readEvent hp .locked (m.address (s.opcode op))).writeEvent hp .locked
      (m.address (s.opcode op)) (m.memoryByte (s.opcode op))).writeEvent hp .locked (m.address (s.opcode op))
      (f (m.memoryByte (s.opcode op)) s.p).1
    rw [m.readByte_afterFetch] at h
    simp only [State.rmwMemory, m.readByte_afterFetch, m.step_p]
    refine Clock.setP ?_ _
    simpa only [Mode.stepTrace, Mode.rmwTrace, List.append_assoc, List.cons_append, List.nil_append] using h

/-- A read-modify-write on the accumulator (41_accessors R203). -/
theorem rmwInstr_accumulator (op : Byte) (f : Byte → Flags → Byte × Flags) (s : State) :
    ∃ u, rmwInstr op .acc f s = .next u.standardSample
      ∧ u.arch = { s.arch with pc := s.pc + 1, a := (f s.a s.p).1, p := (f s.a s.p).2 }
      ∧ Clock s.p.i (s.beginStep (.executed op)) u [.read .operand s.pc op, .idle] :=
  ⟨_, rfl, rfl, (((s.opcode_clock op).idle rfl).setA _).setP _⟩

/-- A jump (47_control R420). -/
theorem jumpInstr_spec (op : Byte) (m : Mode) (s : State) {ea : Addr}
    (hm : m.accessor (s.opcode op) = .addr ea) :
    ∃ u, jumpInstr op m s = .next u.standardSample
      ∧ u.arch = { s.arch with pc := ea }
      ∧ Clock s.p.i (s.beginStep (.executed op)) u (m.stepTrace s op) := by
  refine ⟨(m.events (s.opcode op)).setPc ea, ?_, ?_, (m.step_clock s op).setPc ea⟩
  · simp only [jumpInstr, runInstr, hm, effectiveAddress, Except.map]
  · rw [State.setPc_arch, m.step_arch]

/-- An instruction whose events after the fetch are its own. -/
theorem plainInstr_spec (op : Byte) (m : Mode) (rest : State → State) (s : State) :
    plainInstr op m rest s = .next (rest (m.events (s.opcode op))).standardSample := rfl

/-! ### Branches -/

/-- BranchOp after a fetch of B events. -/
theorem State.branchTo_spec {s u : State} {evs : List Event} (h : Clock s.p.i s u evs) (hs : s.samples = [])
    (hp : u.p = s.p) (hn : 2 ≤ evs.length) (target : Addr) (taken : Bool) :
    (u.branchTo target taken).arch = { u.arch with pc := if taken then target else u.pc }
      ∧ (u.branchTo target taken).trace = s.trace ++ (evs ++ branchTrace u.pc target taken)
      ∧ (u.branchTo target taken).cycles = s.cycles + (evs ++ branchTrace u.pc target taken).length
      ∧ (u.branchTo target taken).reports = s.reports ++ reportsOf s.bus (evs ++ branchTrace u.pc target taken)
      ∧ (u.branchTo target taken).outcome = s.outcome
      ∧ (u.branchTo target taken).pending = s.branchPending evs.length u.pc target taken := by
  have hi : u.p.i = s.p.i := by rw [hp]
  have hl : u.samples.length = evs.length := by rw [h.samples, hs]; simp
  have e1 := h.edgeCheck_pending hs (k := evs.length - 1) (by omega) (by omega)
  cases taken with
  | false =>
    have : u.branchTo target false = u.edgeCheck (evs.length - 1) := by simp [State.branchTo, hl]
    rw [this]
    refine ⟨rfl, ?_, ?_, ?_, ?_, ?_⟩
    · exact Eq.trans h.trace (by simp [branchTrace])
    · exact Eq.trans h.cycles (by simp [branchTrace])
    · exact Eq.trans h.reports (by simp [branchTrace])
    · exact h.outcome
    · simpa [State.branchPending] using e1
  | true =>
    have c1 := h.idle hi
    have c2 := c1.idle hi
    by_cases hx : pageCrossed u.pc target = true
    · have e2 := c2.edgeCheck_pending hs (k := evs.length + 1) (by omega) (by simp)
      have : u.branchTo target true
          = ((u.edgeCheck (evs.length - 1)).idle.idle.edgeCheck (evs.length + 1)).setPc target := by
        simp [State.branchTo, hl, hx]
      rw [this]
      refine ⟨rfl, ?_, ?_, ?_, ?_, ?_⟩
      · exact Eq.trans c2.trace (by simp [branchTrace, hx])
      · exact Eq.trans c2.cycles (by simp [branchTrace, hx])
      · exact Eq.trans c2.reports (by simp [branchTrace, hx])
      · exact h.outcome
      · have e3 : ((u.edgeCheck (evs.length - 1)).idle.idle.edgeCheck (evs.length + 1)).pending
            = ((u.edgeCheck (evs.length - 1)).pending || u.idle.idle.samples.getD (evs.length + 1 - 1) false) := rfl
        have e4 : (u.idle.idle.edgeCheck (evs.length + 1)).pending
            = (u.pending || u.idle.idle.samples.getD (evs.length + 1 - 1) false) := rfl
        rw [State.setPc_pending, e3, e1]
        rw [e4, h.pending] at e2
        simp only [State.branchPending, hx, Bool.true_and, Bool.and_true]
        cases hpend : s.pending
        · rw [hpend] at e2
          simp only [Bool.false_or] at e2 ⊢
          rw [e2]
        · simp
    · have hx' : pageCrossed u.pc target = false := by simpa using hx
      have : u.branchTo target true = (u.edgeCheck (evs.length - 1)).idle.setPc target := by
        simp [State.branchTo, hl, hx']
      rw [this]
      refine ⟨rfl, ?_, ?_, ?_, ?_, ?_⟩
      · exact Eq.trans c1.trace (by simp [branchTrace, hx'])
      · exact Eq.trans c1.cycles (by simp [branchTrace, hx'])
      · exact Eq.trans c1.reports (by simp [branchTrace, hx'])
      · exact h.outcome
      · have : ((u.edgeCheck (evs.length - 1)).idle.setPc target).pending = (u.edgeCheck (evs.length - 1)).pending := rfl
        rw [this, e1]
        simp [State.branchPending, hx']

/-- A relative branch runs to BranchOp. -/
theorem branchInstr_eq (op : Byte) (off : Int) (cond : Flags → Bool) (s : State) :
    branchInstr op off cond s
      = .next (((Mode.rel off).events (s.opcode op)).branchTo ((Mode.rel off).target (s.opcode op)) (cond s.p)) := rfl

/-- A bit-test branch runs to BranchOp on the tested byte. -/
theorem bitBranchInstr_eq (op z : Byte) (off : Int) (cond : Byte → Bool) (s : State) :
    bitBranchInstr op z off cond s
      = .next (((Mode.zpr z off).events (s.opcode op)).branchTo ((Mode.zpr z off).target (s.opcode op))
          (cond ((s.opcode op).byteAt 2 (zext16 z)))) := rfl

/-! ### Reserved opcodes -/

/-- A reserved opcode under RESERVED_OPCODES = Refuse makes its opcode event and is refused (41_accessors R219). -/
theorem reservedStep_refuses (op : Byte) (run : State → Result) {s : State} (h : s.reserved = .refuse) :
    Refuses (reservedStep op run s) op s := by
  have hc := (s.beginStep (.refused op)).fetchByte_clock op
  refine ⟨s.refusedFetch op, by simp only [reservedStep, h], hc.trace, hc.cycles, ?_, rfl, rfl, ?_, ?_, rfl⟩
  · exact hc.reports
  · rw [← State.beginStep_edgeAfter s (.refused op)]; exact hc.edge
  · rw [← State.beginStep_prevAfter s (.refused op)]; exact hc.prev

/-- Under Nop a reserved opcode runs (47_control_system R428 to R433). -/
theorem reservedStep_runs_under_nop (op : Byte) (run : State → Result) {s : State} (h : s.reserved = .nop) :
    reservedStep op run s = run s := by simp only [reservedStep, h]

/-! ### From events to completion -/

/-- An instruction whose events are the opcode, its mode's fetch and `rest`, all with I as at the start of the step, and
which then samples at the standard point, completes. -/
theorem completes_of_clock {i : Instr} {op : Byte} {m : Mode} {s u : State} {rest : List Event} {after : Arch}
    (he : exec i s = .next u.standardSample) (ha : u.arch = after)
    (hc : Clock s.p.i (s.beginStep (.executed op)) u (m.stepTrace s op ++ rest)) : Completes i op m s rest after := by
  have ht : u.trace = m.stepTrace s op ++ rest := hc.trace
  have ht' : u.standardSample.trace = m.stepTrace s op ++ rest := ht
  have hs := hc.standardSample_pending rfl (by simp [Mode.stepTrace])
  refine ⟨_, he, ⟨hc.trace, ?_, ?_, hc.outcome, ha⟩, ?_⟩
  · exact Eq.trans hc.cycles (by rw [ht']; rfl)
  · exact Eq.trans hc.reports (by rw [ht']; rfl)
  · rw [SampledStandard, hs, ht', State.beginStep_sampleAfter]; rfl

/-- A branch that reaches BranchOp after its fetch completes. -/
theorem branchCompletes_of_branchTo {i : Instr} {op : Byte} {m : Mode} {s : State} {target : Addr} {taken : Bool}
    (he : exec i s = .next ((m.events (s.opcode op)).branchTo target taken))
    (hn : 1 ≤ (m.fetchTrace (s.opcode op)).length) :
    BranchCompletes i op m s ((m.fetchTrace (s.opcode op)).length + 1) target taken := by
  obtain ⟨h1, h2, h3, h6, h4, h5⟩ := State.branchTo_spec (s := s.beginStep (.executed op)) (m.step_clock s op) rfl (m.step_p s op)
    (by simp only [List.length_cons]; omega) target taken
  rw [m.step_pc] at h1 h2 h3 h5 h6
  rw [State.beginStep_branchPending] at h5
  refine ⟨_, he, ⟨h2, ?_, ?_, h4, ?_⟩, h5⟩
  · rw [h3, h2]; rfl
  · rw [h6, h2]; rfl
  · rw [h1, m.step_arch]

end Sys2Proof.Machine
end

