-- ==== Sys2Proof/Laws/Exceptions.lean ====
section
/-! SUPPORT. The stack page, and what taking an exception and returning from one do (60_exceptions R459, R464). -/

namespace Sys2Proof.Machine

/-! ### Sums of small constants -/

@[simp] theorem byte_sub_one_one (b : Byte) : b - 1#8 - 1#8 = b - 2#8 := by bv_omega
@[simp] theorem byte_sub_two_one (b : Byte) : b - 2#8 - 1#8 = b - 3#8 := by bv_omega
@[simp] theorem byte_add_one_one (b : Byte) : b + 1#8 + 1#8 = b + 2#8 := by bv_omega
@[simp] theorem byte_add_two_one (b : Byte) : b + 2#8 + 1#8 = b + 3#8 := by bv_omega
@[simp] theorem addr_add_one_one (a : Addr) : a + 1#16 + 1#16 = a + 2#16 := by bv_omega

/-! ### The stack page -/

/-- A push stores in RAM. -/
theorem Bus.write_stack (b : Bus) (sp v : Byte) :
    b.write (stackAddr sp) v = b.poke (.ram (b.ramBank.toNat * 0x2000 + (stackAddr sp).toNat)) v := by
  have h : (stackAddr sp).toNat ≤ 0x1FFF := by rw [stackAddr_toNat]; omega
  have hl : b.locate (stackAddr sp) = some (.ram (b.ramBank.toNat * 0x2000 + (stackAddr sp).toNat)) := by
    unfold Bus.locate
    simp only [h, if_true]
  simp only [Bus.write, hl]

/-- A push moves no address. -/
@[simp] theorem Bus.locate_write_stack (b : Bus) (sp v : Byte) (a : Addr) :
    (b.write (stackAddr sp) v).locate a = b.locate a := by
  rw [Bus.write_stack]
  exact Bus.locate_congr a rfl rfl rfl rfl rfl

/-- A push leaves every physical byte but the one behind its address. -/
theorem Bus.peek_write_stack (b : Bus) (sp v : Byte) {l : Loc} (h : b.locate (stackAddr sp) ≠ some l) :
    (b.write (stackAddr sp) v).peek l = b.peek l :=
  (Bus.write_storedAt b (stackAddr sp) v).2.1 l h

/-! ### The stack page and the vectors report nothing -/

@[simp] theorem Bus.writeReport_stack (b : Bus) (sp v : Byte) : b.writeReport (stackAddr sp) v = [] := by
  have h : (stackAddr sp).toNat ≤ 0x1FFF := by rw [stackAddr_toNat]; omega
  simp only [Bus.writeReport, Bus.locate, h, if_true]

@[simp] theorem Bus.readReport_stack (b : Bus) (sp : Byte) : b.readReport (stackAddr sp) = [] := by
  have h : (stackAddr sp).toNat ≤ 0x1FFF := by rw [stackAddr_toNat]; omega
  simp only [Bus.readReport, Bus.locate, h, if_true]

/-- A read of the cartridge window reports nothing. -/
theorem Bus.readReport_cartridge (b : Bus) {a : Addr} (h : 0x8000 ≤ a.toNat) : b.readReport a = [] := by
  unfold Bus.readReport
  obtain ⟨h0, -⟩ | ⟨k, h0, -⟩ | ⟨k, h0, -⟩ | ⟨-, h0, -⟩ | ⟨-, h0, -⟩ | ⟨-, e⟩ | ⟨h0, -⟩ := b.locate_cases a
  any_goals omega
  rw [e]

@[simp] theorem Bus.readReport_vectors (b : Bus) (a : Addr) (h : a ∈ [0xFFFA, 0xFFFB, 0xFFFC, 0xFFFD, 0xFFFE, 0xFFFF]) :
    b.readReport a = [] := by
  apply b.readReport_cartridge
  simp only [List.mem_cons, List.not_mem_nil, or_false] at h
  obtain rfl | rfl | rfl | rfl | rfl | rfl := h <;> decide

/-! ### Two writes of one byte -/

/-- Writing one address twice, as a read-modify-write does, leaves the second byte there and every other as it was. -/
theorem Bus.write_write_storedAt (b : Bus) (a : Addr) (v r : Byte) : StoredAt b ((b.write a v).write a r) a r := by
  obtain ⟨-, h2, h3⟩ := Bus.write_storedAt b a v
  obtain ⟨g1, g2, g3⟩ := Bus.write_storedAt (b.write a v) a r
  rw [Bus.locate_write_same] at g1 g2
  exact ⟨g1, fun l hl => (g2 l hl).trans (h2 l hl), fun k => (g3 k).trans (h3 k)⟩

/-! ### Taking an exception -/

/-- The bus after the three pushes of an exception: the address `ret` and the status byte. -/
def Bus.pushFrame (b : Bus) (sp : Byte) (ret : Addr) (status : Byte) : Bus :=
  ((b.write (stackAddr sp) (hiByte ret)).write (stackAddr (sp - 1)) (loByte ret)).write (stackAddr (sp - 2)) status

/-- Whether an exception goes through the NMI vector: an edge is latched once PCL is pushed, and it is no BRK. -/
def State.takesNmi (s : State) (brk : Bool) : Bool := s.edgeAfter 2 && !brk

/-- The vector of an exception. -/
def State.exceptionVector (s : State) (brk : Bool) : Addr := if s.takesNmi brk then 0xFFFA else 0xFFFE

/-- What taking an exception does: the frame is pushed, I is set and D cleared, PC comes from the vector, five events. -/
theorem State.takeException_spec (s : State) (brk : Bool) :
    let t := (s.takeException brk).2
    let b := s.bus.pushFrame s.sp s.pc (s.p.toByte brk)
    let vector := s.exceptionVector brk
    let lo := b.read (s.linesAt 4) vector
    let hi := b.read (s.linesAt 5) (vector + 1)
    (s.takeException brk).1 = vector
      ∧ t.arch = { s.arch with pc := joinBytes hi lo, sp := s.sp - 3, bus := b, p := s.p.handlerEntry }
      ∧ t.trace = s.trace ++ [.write .data (stackAddr s.sp) (hiByte s.pc), .write .data (stackAddr (s.sp - 1)) (loByte s.pc),
          .write .data (stackAddr (s.sp - 2)) (s.p.toByte brk), .read .pointer vector lo, .read .pointer (vector + 1) hi]
      ∧ t.cycles = s.cycles + 5 ∧ t.pending = s.pending ∧ t.outcome = s.outcome := by
  have hn : (((s.push (hiByte s.pc)).push (loByte s.pc)).nmiEdge && !brk) = s.takesNmi brk := by
    simp [State.takesNmi, State.edgeAfter, State.prevAfter, State.push, State.writeEvent]
  simp only [State.takeException, State.push_pc, hn, State.exceptionVector]
  generalize (if s.takesNmi brk = true then (0xFFFA : Addr) else 0xFFFE) = vector
  refine ⟨trivial, ?_, ?_, ?_, ?_, ?_⟩ <;>
    simp [State.arch, State.loadPc, State.push, State.writeEvent, State.readEvent, State.readByte, State.byteAt,
      Bus.pushFrame]

/-- The NMI edge latch after taking an exception: what the NMI vector used up is gone, later edges stay. -/
theorem State.takeException_nmiEdge (s : State) (brk : Bool) :
    (s.takeException brk).2.nmiEdge = ((s.edgeAfter 2 && !s.takesNmi brk)
      || ((s.linesAt 3).nmi && !(s.linesAt 2).nmi) || ((s.linesAt 4).nmi && !(s.linesAt 3).nmi)
      || ((s.linesAt 5).nmi && !(s.linesAt 4).nmi)) := by
  simp [State.takeException, State.loadPc, State.push, State.writeEvent, State.readEvent, State.takesNmi,
    State.edgeAfter, State.prevAfter]

/-- The status of a return from exception, and the two bytes of PC: the pulls of events 1, 2 and 3. -/
theorem State.returnFromException_spec (s : State) :
    let t := s.returnFromException
    let status := s.byteAt 1 (stackAddr (s.sp + 1))
    let lo := s.byteAt 2 (stackAddr (s.sp + 2))
    let hi := s.byteAt 3 (stackAddr (s.sp + 3))
    t.arch = { s.arch with pc := joinBytes hi lo, sp := s.sp + 3, p := Flags.ofByte status }
      ∧ t.trace = s.trace ++ [.read .data (stackAddr (s.sp + 1)) status, .read .data (stackAddr (s.sp + 2)) lo,
          .read .data (stackAddr (s.sp + 3)) hi]
      ∧ t.cycles = s.cycles + 3 ∧ t.pending = s.pending ∧ t.outcome = s.outcome
      ∧ t.nmiEdge = s.edgeAfter 3 := by
  refine ⟨?_, ?_, ?_, ?_, ?_, ?_⟩ <;>
    simp [State.arch, State.returnFromException, State.pull, State.pulled, State.readEvent, State.readByte, State.byteAt,
      State.edgeAfter, State.prevAfter]

/-! ### No report comes from the stack page or the vectors -/

@[simp] theorem State.push_reports (s : State) (v : Byte) : (s.push v).reports = s.reports := by
  simp [State.push, State.writeEvent]

@[simp] theorem State.pull_reports (s : State) : s.pull.reports = s.reports := by
  simp [State.pull, State.readEvent]

theorem State.loadPc_reports (s : State) {v : Addr} (h1 : 0x8000 ≤ v.toNat) (h2 : 0x8000 ≤ (v + 1).toNat) :
    (s.loadPc v).reports = s.reports := by
  have e : (s.bus.readReport v, s.bus.readReport (v + 1)) = ([], []) := by
    rw [s.bus.readReport_cartridge h1, s.bus.readReport_cartridge h2]
  simp only [Prod.mk.injEq] at e
  simpa [State.loadPc, State.readEvent, e.1] using e.2

theorem State.takeException_reports (s : State) (brk : Bool) : (s.takeException brk).2.reports = s.reports := by
  unfold State.takeException
  rw [State.loadPc_reports]
  · simp
  · split <;> decide
  · split <;> decide

theorem State.returnFromException_reports (s : State) : s.returnFromException.reports = s.reports := by
  simp [State.returnFromException, State.pull, State.readEvent]

theorem State.interruptEntry_reports (s : State) : s.interruptEntry.reports = s.reports := by
  simp [State.interruptEntry, State.takeException_reports, State.idle]

theorem State.resetStep_reports (s : State) : s.resetStep.reports = s.reports := by
  simp [State.resetStep, State.loadPc, State.readEvent, State.idle]

theorem State.waitStep_reports (s : State) : s.waitStep.reports = s.reports := by
  simp only [State.waitStep]
  split <;> simp [State.idle, State.edgeCheck]

end Sys2Proof.Machine
end

