-- ==== Sys2Proof/Laws/PerInstr.lean ====
section
/-! SUPPORT. Laws of every instruction, one lemma for each constructor. `EncodedLength`: an encoded instruction has as many
bytes as the length matrix gives its opcode (30_encoding R141, R148). -/

namespace Sys2Proof.Laws.EncodedLength

open Sys2Proof

/-- The encoding has the length of its opcode. -/
def Statement (i : Instr) : Prop := (encode i).length = lengthOf ((encode i).headD 0)

theorem brk (sig : Byte) : Statement (.brk sig) := (by decide : 2 = lengthOf 0x00)
theorem oraIzx (z : Byte) : Statement (.oraIzx z) := (by decide : 2 = lengthOf 0x01)
theorem nop02 (v : Byte) : Statement (.nop02 v) := (by decide : 2 = lengthOf 0x02)
theorem nop03 : Statement .nop03 := (by decide : 1 = lengthOf 0x03)
theorem tsbZp (z : Byte) : Statement (.tsbZp z) := (by decide : 2 = lengthOf 0x04)
theorem oraZp (z : Byte) : Statement (.oraZp z) := (by decide : 2 = lengthOf 0x05)
theorem aslZp (z : Byte) : Statement (.aslZp z) := (by decide : 2 = lengthOf 0x06)
theorem rmb0 (z : Byte) : Statement (.rmb0 z) := (by decide : 2 = lengthOf 0x07)
theorem php : Statement .php := (by decide : 1 = lengthOf 0x08)
theorem oraImm (v : Byte) : Statement (.oraImm v) := (by decide : 2 = lengthOf 0x09)
theorem aslAcc : Statement .aslAcc := (by decide : 1 = lengthOf 0x0A)
theorem nop0B : Statement .nop0B := (by decide : 1 = lengthOf 0x0B)
theorem tsbAbs (a : Addr) : Statement (.tsbAbs a) := (by decide : 3 = lengthOf 0x0C)
theorem oraAbs (a : Addr) : Statement (.oraAbs a) := (by decide : 3 = lengthOf 0x0D)
theorem aslAbs (a : Addr) : Statement (.aslAbs a) := (by decide : 3 = lengthOf 0x0E)
theorem bbr0 (z : Byte) (off : Int) : Statement (.bbr0 z off) := (by decide : 3 = lengthOf 0x0F)
theorem bpl (off : Int) : Statement (.bpl off) := (by decide : 2 = lengthOf 0x10)
theorem oraIzy (z : Byte) : Statement (.oraIzy z) := (by decide : 2 = lengthOf 0x11)
theorem oraIzp (z : Byte) : Statement (.oraIzp z) := (by decide : 2 = lengthOf 0x12)
theorem nop13 : Statement .nop13 := (by decide : 1 = lengthOf 0x13)
theorem trbZp (z : Byte) : Statement (.trbZp z) := (by decide : 2 = lengthOf 0x14)
theorem oraZpx (z : Byte) : Statement (.oraZpx z) := (by decide : 2 = lengthOf 0x15)
theorem aslZpx (z : Byte) : Statement (.aslZpx z) := (by decide : 2 = lengthOf 0x16)
theorem rmb1 (z : Byte) : Statement (.rmb1 z) := (by decide : 2 = lengthOf 0x17)
theorem clc : Statement .clc := (by decide : 1 = lengthOf 0x18)
theorem oraAbsy (a : Addr) : Statement (.oraAbsy a) := (by decide : 3 = lengthOf 0x19)
theorem incAcc : Statement .incAcc := (by decide : 1 = lengthOf 0x1A)
theorem nop1B : Statement .nop1B := (by decide : 1 = lengthOf 0x1B)
theorem trbAbs (a : Addr) : Statement (.trbAbs a) := (by decide : 3 = lengthOf 0x1C)
theorem oraAbsx (a : Addr) : Statement (.oraAbsx a) := (by decide : 3 = lengthOf 0x1D)
theorem aslAbsx (a : Addr) : Statement (.aslAbsx a) := (by decide : 3 = lengthOf 0x1E)
theorem bbr1 (z : Byte) (off : Int) : Statement (.bbr1 z off) := (by decide : 3 = lengthOf 0x1F)
theorem jsr (a : Addr) : Statement (.jsr a) := (by decide : 3 = lengthOf 0x20)
theorem andIzx (z : Byte) : Statement (.andIzx z) := (by decide : 2 = lengthOf 0x21)
theorem nop22 (v : Byte) : Statement (.nop22 v) := (by decide : 2 = lengthOf 0x22)
theorem nop23 : Statement .nop23 := (by decide : 1 = lengthOf 0x23)
theorem bitZp (z : Byte) : Statement (.bitZp z) := (by decide : 2 = lengthOf 0x24)
theorem andZp (z : Byte) : Statement (.andZp z) := (by decide : 2 = lengthOf 0x25)
theorem rolZp (z : Byte) : Statement (.rolZp z) := (by decide : 2 = lengthOf 0x26)
theorem rmb2 (z : Byte) : Statement (.rmb2 z) := (by decide : 2 = lengthOf 0x27)
theorem plp : Statement .plp := (by decide : 1 = lengthOf 0x28)
theorem andImm (v : Byte) : Statement (.andImm v) := (by decide : 2 = lengthOf 0x29)
theorem rolAcc : Statement .rolAcc := (by decide : 1 = lengthOf 0x2A)
theorem nop2B : Statement .nop2B := (by decide : 1 = lengthOf 0x2B)
theorem bitAbs (a : Addr) : Statement (.bitAbs a) := (by decide : 3 = lengthOf 0x2C)
theorem andAbs (a : Addr) : Statement (.andAbs a) := (by decide : 3 = lengthOf 0x2D)
theorem rolAbs (a : Addr) : Statement (.rolAbs a) := (by decide : 3 = lengthOf 0x2E)
theorem bbr2 (z : Byte) (off : Int) : Statement (.bbr2 z off) := (by decide : 3 = lengthOf 0x2F)
theorem bmi (off : Int) : Statement (.bmi off) := (by decide : 2 = lengthOf 0x30)
theorem andIzy (z : Byte) : Statement (.andIzy z) := (by decide : 2 = lengthOf 0x31)
theorem andIzp (z : Byte) : Statement (.andIzp z) := (by decide : 2 = lengthOf 0x32)
theorem nop33 : Statement .nop33 := (by decide : 1 = lengthOf 0x33)
theorem bitZpx (z : Byte) : Statement (.bitZpx z) := (by decide : 2 = lengthOf 0x34)
theorem andZpx (z : Byte) : Statement (.andZpx z) := (by decide : 2 = lengthOf 0x35)
theorem rolZpx (z : Byte) : Statement (.rolZpx z) := (by decide : 2 = lengthOf 0x36)
theorem rmb3 (z : Byte) : Statement (.rmb3 z) := (by decide : 2 = lengthOf 0x37)
theorem sec : Statement .sec := (by decide : 1 = lengthOf 0x38)
theorem andAbsy (a : Addr) : Statement (.andAbsy a) := (by decide : 3 = lengthOf 0x39)
theorem decAcc : Statement .decAcc := (by decide : 1 = lengthOf 0x3A)
theorem nop3B : Statement .nop3B := (by decide : 1 = lengthOf 0x3B)
theorem bitAbsx (a : Addr) : Statement (.bitAbsx a) := (by decide : 3 = lengthOf 0x3C)
theorem andAbsx (a : Addr) : Statement (.andAbsx a) := (by decide : 3 = lengthOf 0x3D)
theorem rolAbsx (a : Addr) : Statement (.rolAbsx a) := (by decide : 3 = lengthOf 0x3E)
theorem bbr3 (z : Byte) (off : Int) : Statement (.bbr3 z off) := (by decide : 3 = lengthOf 0x3F)
theorem rti : Statement .rti := (by decide : 1 = lengthOf 0x40)
theorem eorIzx (z : Byte) : Statement (.eorIzx z) := (by decide : 2 = lengthOf 0x41)
theorem nop42 (v : Byte) : Statement (.nop42 v) := (by decide : 2 = lengthOf 0x42)
theorem nop43 : Statement .nop43 := (by decide : 1 = lengthOf 0x43)
theorem nop44 (z : Byte) : Statement (.nop44 z) := (by decide : 2 = lengthOf 0x44)
theorem eorZp (z : Byte) : Statement (.eorZp z) := (by decide : 2 = lengthOf 0x45)
theorem lsrZp (z : Byte) : Statement (.lsrZp z) := (by decide : 2 = lengthOf 0x46)
theorem rmb4 (z : Byte) : Statement (.rmb4 z) := (by decide : 2 = lengthOf 0x47)
theorem pha : Statement .pha := (by decide : 1 = lengthOf 0x48)
theorem eorImm (v : Byte) : Statement (.eorImm v) := (by decide : 2 = lengthOf 0x49)
theorem lsrAcc : Statement .lsrAcc := (by decide : 1 = lengthOf 0x4A)
theorem nop4B : Statement .nop4B := (by decide : 1 = lengthOf 0x4B)
theorem jmpAbs (a : Addr) : Statement (.jmpAbs a) := (by decide : 3 = lengthOf 0x4C)
theorem eorAbs (a : Addr) : Statement (.eorAbs a) := (by decide : 3 = lengthOf 0x4D)
theorem lsrAbs (a : Addr) : Statement (.lsrAbs a) := (by decide : 3 = lengthOf 0x4E)
theorem bbr4 (z : Byte) (off : Int) : Statement (.bbr4 z off) := (by decide : 3 = lengthOf 0x4F)
theorem bvc (off : Int) : Statement (.bvc off) := (by decide : 2 = lengthOf 0x50)
theorem eorIzy (z : Byte) : Statement (.eorIzy z) := (by decide : 2 = lengthOf 0x51)
theorem eorIzp (z : Byte) : Statement (.eorIzp z) := (by decide : 2 = lengthOf 0x52)
theorem nop53 : Statement .nop53 := (by decide : 1 = lengthOf 0x53)
theorem nop54 (z : Byte) : Statement (.nop54 z) := (by decide : 2 = lengthOf 0x54)
theorem eorZpx (z : Byte) : Statement (.eorZpx z) := (by decide : 2 = lengthOf 0x55)
theorem lsrZpx (z : Byte) : Statement (.lsrZpx z) := (by decide : 2 = lengthOf 0x56)
theorem rmb5 (z : Byte) : Statement (.rmb5 z) := (by decide : 2 = lengthOf 0x57)
theorem cli : Statement .cli := (by decide : 1 = lengthOf 0x58)
theorem eorAbsy (a : Addr) : Statement (.eorAbsy a) := (by decide : 3 = lengthOf 0x59)
theorem phy : Statement .phy := (by decide : 1 = lengthOf 0x5A)
theorem nop5B : Statement .nop5B := (by decide : 1 = lengthOf 0x5B)
theorem nop5C (a : Addr) : Statement (.nop5C a) := (by decide : 3 = lengthOf 0x5C)
theorem eorAbsx (a : Addr) : Statement (.eorAbsx a) := (by decide : 3 = lengthOf 0x5D)
theorem lsrAbsx (a : Addr) : Statement (.lsrAbsx a) := (by decide : 3 = lengthOf 0x5E)
theorem bbr5 (z : Byte) (off : Int) : Statement (.bbr5 z off) := (by decide : 3 = lengthOf 0x5F)
theorem rts : Statement .rts := (by decide : 1 = lengthOf 0x60)
theorem adcIzx (z : Byte) : Statement (.adcIzx z) := (by decide : 2 = lengthOf 0x61)
theorem nop62 (v : Byte) : Statement (.nop62 v) := (by decide : 2 = lengthOf 0x62)
theorem nop63 : Statement .nop63 := (by decide : 1 = lengthOf 0x63)
theorem stzZp (z : Byte) : Statement (.stzZp z) := (by decide : 2 = lengthOf 0x64)
theorem adcZp (z : Byte) : Statement (.adcZp z) := (by decide : 2 = lengthOf 0x65)
theorem rorZp (z : Byte) : Statement (.rorZp z) := (by decide : 2 = lengthOf 0x66)
theorem rmb6 (z : Byte) : Statement (.rmb6 z) := (by decide : 2 = lengthOf 0x67)
theorem pla : Statement .pla := (by decide : 1 = lengthOf 0x68)
theorem adcImm (v : Byte) : Statement (.adcImm v) := (by decide : 2 = lengthOf 0x69)
theorem rorAcc : Statement .rorAcc := (by decide : 1 = lengthOf 0x6A)
theorem nop6B : Statement .nop6B := (by decide : 1 = lengthOf 0x6B)
theorem jmpInd (a : Addr) : Statement (.jmpInd a) := (by decide : 3 = lengthOf 0x6C)
theorem adcAbs (a : Addr) : Statement (.adcAbs a) := (by decide : 3 = lengthOf 0x6D)
theorem rorAbs (a : Addr) : Statement (.rorAbs a) := (by decide : 3 = lengthOf 0x6E)
theorem bbr6 (z : Byte) (off : Int) : Statement (.bbr6 z off) := (by decide : 3 = lengthOf 0x6F)
theorem bvs (off : Int) : Statement (.bvs off) := (by decide : 2 = lengthOf 0x70)
theorem adcIzy (z : Byte) : Statement (.adcIzy z) := (by decide : 2 = lengthOf 0x71)
theorem adcIzp (z : Byte) : Statement (.adcIzp z) := (by decide : 2 = lengthOf 0x72)
theorem nop73 : Statement .nop73 := (by decide : 1 = lengthOf 0x73)
theorem stzZpx (z : Byte) : Statement (.stzZpx z) := (by decide : 2 = lengthOf 0x74)
theorem adcZpx (z : Byte) : Statement (.adcZpx z) := (by decide : 2 = lengthOf 0x75)
theorem rorZpx (z : Byte) : Statement (.rorZpx z) := (by decide : 2 = lengthOf 0x76)
theorem rmb7 (z : Byte) : Statement (.rmb7 z) := (by decide : 2 = lengthOf 0x77)
theorem sei : Statement .sei := (by decide : 1 = lengthOf 0x78)
theorem adcAbsy (a : Addr) : Statement (.adcAbsy a) := (by decide : 3 = lengthOf 0x79)
theorem ply : Statement .ply := (by decide : 1 = lengthOf 0x7A)
theorem nop7B : Statement .nop7B := (by decide : 1 = lengthOf 0x7B)
theorem jmpIax (a : Addr) : Statement (.jmpIax a) := (by decide : 3 = lengthOf 0x7C)
theorem adcAbsx (a : Addr) : Statement (.adcAbsx a) := (by decide : 3 = lengthOf 0x7D)
theorem rorAbsx (a : Addr) : Statement (.rorAbsx a) := (by decide : 3 = lengthOf 0x7E)
theorem bbr7 (z : Byte) (off : Int) : Statement (.bbr7 z off) := (by decide : 3 = lengthOf 0x7F)
theorem bra (off : Int) : Statement (.bra off) := (by decide : 2 = lengthOf 0x80)
theorem staIzx (z : Byte) : Statement (.staIzx z) := (by decide : 2 = lengthOf 0x81)
theorem nop82 (v : Byte) : Statement (.nop82 v) := (by decide : 2 = lengthOf 0x82)
theorem nop83 : Statement .nop83 := (by decide : 1 = lengthOf 0x83)
theorem styZp (z : Byte) : Statement (.styZp z) := (by decide : 2 = lengthOf 0x84)
theorem staZp (z : Byte) : Statement (.staZp z) := (by decide : 2 = lengthOf 0x85)
theorem stxZp (z : Byte) : Statement (.stxZp z) := (by decide : 2 = lengthOf 0x86)
theorem smb0 (z : Byte) : Statement (.smb0 z) := (by decide : 2 = lengthOf 0x87)
theorem dey : Statement .dey := (by decide : 1 = lengthOf 0x88)
theorem bitImm (v : Byte) : Statement (.bitImm v) := (by decide : 2 = lengthOf 0x89)
theorem txa : Statement .txa := (by decide : 1 = lengthOf 0x8A)
theorem nop8B : Statement .nop8B := (by decide : 1 = lengthOf 0x8B)
theorem styAbs (a : Addr) : Statement (.styAbs a) := (by decide : 3 = lengthOf 0x8C)
theorem staAbs (a : Addr) : Statement (.staAbs a) := (by decide : 3 = lengthOf 0x8D)
theorem stxAbs (a : Addr) : Statement (.stxAbs a) := (by decide : 3 = lengthOf 0x8E)
theorem bbs0 (z : Byte) (off : Int) : Statement (.bbs0 z off) := (by decide : 3 = lengthOf 0x8F)
theorem bcc (off : Int) : Statement (.bcc off) := (by decide : 2 = lengthOf 0x90)
theorem staIzy (z : Byte) : Statement (.staIzy z) := (by decide : 2 = lengthOf 0x91)
theorem staIzp (z : Byte) : Statement (.staIzp z) := (by decide : 2 = lengthOf 0x92)
theorem nop93 : Statement .nop93 := (by decide : 1 = lengthOf 0x93)
theorem styZpx (z : Byte) : Statement (.styZpx z) := (by decide : 2 = lengthOf 0x94)
theorem staZpx (z : Byte) : Statement (.staZpx z) := (by decide : 2 = lengthOf 0x95)
theorem stxZpy (z : Byte) : Statement (.stxZpy z) := (by decide : 2 = lengthOf 0x96)
theorem smb1 (z : Byte) : Statement (.smb1 z) := (by decide : 2 = lengthOf 0x97)
theorem tya : Statement .tya := (by decide : 1 = lengthOf 0x98)
theorem staAbsy (a : Addr) : Statement (.staAbsy a) := (by decide : 3 = lengthOf 0x99)
theorem txs : Statement .txs := (by decide : 1 = lengthOf 0x9A)
theorem nop9B : Statement .nop9B := (by decide : 1 = lengthOf 0x9B)
theorem stzAbs (a : Addr) : Statement (.stzAbs a) := (by decide : 3 = lengthOf 0x9C)
theorem staAbsx (a : Addr) : Statement (.staAbsx a) := (by decide : 3 = lengthOf 0x9D)
theorem stzAbsx (a : Addr) : Statement (.stzAbsx a) := (by decide : 3 = lengthOf 0x9E)
theorem bbs1 (z : Byte) (off : Int) : Statement (.bbs1 z off) := (by decide : 3 = lengthOf 0x9F)
theorem ldyImm (v : Byte) : Statement (.ldyImm v) := (by decide : 2 = lengthOf 0xA0)
theorem ldaIzx (z : Byte) : Statement (.ldaIzx z) := (by decide : 2 = lengthOf 0xA1)
theorem ldxImm (v : Byte) : Statement (.ldxImm v) := (by decide : 2 = lengthOf 0xA2)
theorem nopA3 : Statement .nopA3 := (by decide : 1 = lengthOf 0xA3)
theorem ldyZp (z : Byte) : Statement (.ldyZp z) := (by decide : 2 = lengthOf 0xA4)
theorem ldaZp (z : Byte) : Statement (.ldaZp z) := (by decide : 2 = lengthOf 0xA5)
theorem ldxZp (z : Byte) : Statement (.ldxZp z) := (by decide : 2 = lengthOf 0xA6)
theorem smb2 (z : Byte) : Statement (.smb2 z) := (by decide : 2 = lengthOf 0xA7)
theorem tay : Statement .tay := (by decide : 1 = lengthOf 0xA8)
theorem ldaImm (v : Byte) : Statement (.ldaImm v) := (by decide : 2 = lengthOf 0xA9)
theorem tax : Statement .tax := (by decide : 1 = lengthOf 0xAA)
theorem nopAB : Statement .nopAB := (by decide : 1 = lengthOf 0xAB)
theorem ldyAbs (a : Addr) : Statement (.ldyAbs a) := (by decide : 3 = lengthOf 0xAC)
theorem ldaAbs (a : Addr) : Statement (.ldaAbs a) := (by decide : 3 = lengthOf 0xAD)
theorem ldxAbs (a : Addr) : Statement (.ldxAbs a) := (by decide : 3 = lengthOf 0xAE)
theorem bbs2 (z : Byte) (off : Int) : Statement (.bbs2 z off) := (by decide : 3 = lengthOf 0xAF)
theorem bcs (off : Int) : Statement (.bcs off) := (by decide : 2 = lengthOf 0xB0)
theorem ldaIzy (z : Byte) : Statement (.ldaIzy z) := (by decide : 2 = lengthOf 0xB1)
theorem ldaIzp (z : Byte) : Statement (.ldaIzp z) := (by decide : 2 = lengthOf 0xB2)
theorem nopB3 : Statement .nopB3 := (by decide : 1 = lengthOf 0xB3)
theorem ldyZpx (z : Byte) : Statement (.ldyZpx z) := (by decide : 2 = lengthOf 0xB4)
theorem ldaZpx (z : Byte) : Statement (.ldaZpx z) := (by decide : 2 = lengthOf 0xB5)
theorem ldxZpy (z : Byte) : Statement (.ldxZpy z) := (by decide : 2 = lengthOf 0xB6)
theorem smb3 (z : Byte) : Statement (.smb3 z) := (by decide : 2 = lengthOf 0xB7)
theorem clv : Statement .clv := (by decide : 1 = lengthOf 0xB8)
theorem ldaAbsy (a : Addr) : Statement (.ldaAbsy a) := (by decide : 3 = lengthOf 0xB9)
theorem tsx : Statement .tsx := (by decide : 1 = lengthOf 0xBA)
theorem nopBB : Statement .nopBB := (by decide : 1 = lengthOf 0xBB)
theorem ldyAbsx (a : Addr) : Statement (.ldyAbsx a) := (by decide : 3 = lengthOf 0xBC)
theorem ldaAbsx (a : Addr) : Statement (.ldaAbsx a) := (by decide : 3 = lengthOf 0xBD)
theorem ldxAbsy (a : Addr) : Statement (.ldxAbsy a) := (by decide : 3 = lengthOf 0xBE)
theorem bbs3 (z : Byte) (off : Int) : Statement (.bbs3 z off) := (by decide : 3 = lengthOf 0xBF)
theorem cpyImm (v : Byte) : Statement (.cpyImm v) := (by decide : 2 = lengthOf 0xC0)
theorem cmpIzx (z : Byte) : Statement (.cmpIzx z) := (by decide : 2 = lengthOf 0xC1)
theorem nopC2 (v : Byte) : Statement (.nopC2 v) := (by decide : 2 = lengthOf 0xC2)
theorem nopC3 : Statement .nopC3 := (by decide : 1 = lengthOf 0xC3)
theorem cpyZp (z : Byte) : Statement (.cpyZp z) := (by decide : 2 = lengthOf 0xC4)
theorem cmpZp (z : Byte) : Statement (.cmpZp z) := (by decide : 2 = lengthOf 0xC5)
theorem decZp (z : Byte) : Statement (.decZp z) := (by decide : 2 = lengthOf 0xC6)
theorem smb4 (z : Byte) : Statement (.smb4 z) := (by decide : 2 = lengthOf 0xC7)
theorem iny : Statement .iny := (by decide : 1 = lengthOf 0xC8)
theorem cmpImm (v : Byte) : Statement (.cmpImm v) := (by decide : 2 = lengthOf 0xC9)
theorem dex : Statement .dex := (by decide : 1 = lengthOf 0xCA)
theorem wai : Statement .wai := (by decide : 1 = lengthOf 0xCB)
theorem cpyAbs (a : Addr) : Statement (.cpyAbs a) := (by decide : 3 = lengthOf 0xCC)
theorem cmpAbs (a : Addr) : Statement (.cmpAbs a) := (by decide : 3 = lengthOf 0xCD)
theorem decAbs (a : Addr) : Statement (.decAbs a) := (by decide : 3 = lengthOf 0xCE)
theorem bbs4 (z : Byte) (off : Int) : Statement (.bbs4 z off) := (by decide : 3 = lengthOf 0xCF)
theorem bne (off : Int) : Statement (.bne off) := (by decide : 2 = lengthOf 0xD0)
theorem cmpIzy (z : Byte) : Statement (.cmpIzy z) := (by decide : 2 = lengthOf 0xD1)
theorem cmpIzp (z : Byte) : Statement (.cmpIzp z) := (by decide : 2 = lengthOf 0xD2)
theorem nopD3 : Statement .nopD3 := (by decide : 1 = lengthOf 0xD3)
theorem nopD4 (z : Byte) : Statement (.nopD4 z) := (by decide : 2 = lengthOf 0xD4)
theorem cmpZpx (z : Byte) : Statement (.cmpZpx z) := (by decide : 2 = lengthOf 0xD5)
theorem decZpx (z : Byte) : Statement (.decZpx z) := (by decide : 2 = lengthOf 0xD6)
theorem smb5 (z : Byte) : Statement (.smb5 z) := (by decide : 2 = lengthOf 0xD7)
theorem cld : Statement .cld := (by decide : 1 = lengthOf 0xD8)
theorem cmpAbsy (a : Addr) : Statement (.cmpAbsy a) := (by decide : 3 = lengthOf 0xD9)
theorem phx : Statement .phx := (by decide : 1 = lengthOf 0xDA)
theorem stp : Statement .stp := (by decide : 1 = lengthOf 0xDB)
theorem nopDC (a : Addr) : Statement (.nopDC a) := (by decide : 3 = lengthOf 0xDC)
theorem cmpAbsx (a : Addr) : Statement (.cmpAbsx a) := (by decide : 3 = lengthOf 0xDD)
theorem decAbsx (a : Addr) : Statement (.decAbsx a) := (by decide : 3 = lengthOf 0xDE)
theorem bbs5 (z : Byte) (off : Int) : Statement (.bbs5 z off) := (by decide : 3 = lengthOf 0xDF)
theorem cpxImm (v : Byte) : Statement (.cpxImm v) := (by decide : 2 = lengthOf 0xE0)
theorem sbcIzx (z : Byte) : Statement (.sbcIzx z) := (by decide : 2 = lengthOf 0xE1)
theorem nopE2 (v : Byte) : Statement (.nopE2 v) := (by decide : 2 = lengthOf 0xE2)
theorem nopE3 : Statement .nopE3 := (by decide : 1 = lengthOf 0xE3)
theorem cpxZp (z : Byte) : Statement (.cpxZp z) := (by decide : 2 = lengthOf 0xE4)
theorem sbcZp (z : Byte) : Statement (.sbcZp z) := (by decide : 2 = lengthOf 0xE5)
theorem incZp (z : Byte) : Statement (.incZp z) := (by decide : 2 = lengthOf 0xE6)
theorem smb6 (z : Byte) : Statement (.smb6 z) := (by decide : 2 = lengthOf 0xE7)
theorem inx : Statement .inx := (by decide : 1 = lengthOf 0xE8)
theorem sbcImm (v : Byte) : Statement (.sbcImm v) := (by decide : 2 = lengthOf 0xE9)
theorem nop : Statement .nop := (by decide : 1 = lengthOf 0xEA)
theorem nopEB : Statement .nopEB := (by decide : 1 = lengthOf 0xEB)
theorem cpxAbs (a : Addr) : Statement (.cpxAbs a) := (by decide : 3 = lengthOf 0xEC)
theorem sbcAbs (a : Addr) : Statement (.sbcAbs a) := (by decide : 3 = lengthOf 0xED)
theorem incAbs (a : Addr) : Statement (.incAbs a) := (by decide : 3 = lengthOf 0xEE)
theorem bbs6 (z : Byte) (off : Int) : Statement (.bbs6 z off) := (by decide : 3 = lengthOf 0xEF)
theorem beq (off : Int) : Statement (.beq off) := (by decide : 2 = lengthOf 0xF0)
theorem sbcIzy (z : Byte) : Statement (.sbcIzy z) := (by decide : 2 = lengthOf 0xF1)
theorem sbcIzp (z : Byte) : Statement (.sbcIzp z) := (by decide : 2 = lengthOf 0xF2)
theorem nopF3 : Statement .nopF3 := (by decide : 1 = lengthOf 0xF3)
theorem nopF4 (z : Byte) : Statement (.nopF4 z) := (by decide : 2 = lengthOf 0xF4)
theorem sbcZpx (z : Byte) : Statement (.sbcZpx z) := (by decide : 2 = lengthOf 0xF5)
theorem incZpx (z : Byte) : Statement (.incZpx z) := (by decide : 2 = lengthOf 0xF6)
theorem smb7 (z : Byte) : Statement (.smb7 z) := (by decide : 2 = lengthOf 0xF7)
theorem sed : Statement .sed := (by decide : 1 = lengthOf 0xF8)
theorem sbcAbsy (a : Addr) : Statement (.sbcAbsy a) := (by decide : 3 = lengthOf 0xF9)
theorem plx : Statement .plx := (by decide : 1 = lengthOf 0xFA)
theorem nopFB : Statement .nopFB := (by decide : 1 = lengthOf 0xFB)
theorem nopFC (a : Addr) : Statement (.nopFC a) := (by decide : 3 = lengthOf 0xFC)
theorem sbcAbsx (a : Addr) : Statement (.sbcAbsx a) := (by decide : 3 = lengthOf 0xFD)
theorem incAbsx (a : Addr) : Statement (.incAbsx a) := (by decide : 3 = lengthOf 0xFE)
theorem bbs7 (z : Byte) (off : Int) : Statement (.bbs7 z off) := (by decide : 3 = lengthOf 0xFF)

end Sys2Proof.Laws.EncodedLength
end

