-- ==== Sys2Proof/Laws/Reach.lean ====
section
/-! SUPPORT. Everything a step can do, said once: `Reaches s t evs` says that `t` is `s` after the events `evs`, each
clocked, with updates of registers, flags and run state between them. -/

namespace Sys2Proof.Machine

/-- An update that touches neither clock nor inputs nor bus nor log. -/
structure Silent (u v : State) : Prop where
  cycles : v.cycles = u.cycles
  trace : v.trace = u.trace
  reports : v.reports = u.reports
  nmiPrev : v.nmiPrev = u.nmiPrev
  nmiEdge : v.nmiEdge = u.nmiEdge
  lines : v.lines = u.lines
  inputs : v.inputs = u.inputs
  bus : v.bus = u.bus
  reserved : v.reserved = u.reserved
  opcode5C : v.opcode5C = u.opcode5C
  agents : v.agents = u.agents
  resetRequest : v.resetRequest = u.resetRequest

/-- `t` is `s` after some events and silent updates. -/
inductive Reaches (s : State) : State → List Event → Prop where
  | refl : Reaches s s []
  | silent {u v : State} {evs : List Event} : Reaches s u evs → Silent u v → Reaches s v evs
  | idle {u : State} {evs : List Event} : Reaches s u evs → Reaches s u.idle (evs ++ [.idle])
  | read {u : State} {evs : List Event} (k : ReadKind) (a : Addr) (v : Byte) :
      Reaches s u evs → Reaches s (u.tick (.read k a v) (u.bus.readReport a)) (evs ++ [.read k a v])
  | write {u : State} {evs : List Event} (k : WriteKind) (a : Addr) (v : Byte) :
      Reaches s u evs → Reaches s (u.writeEvent k a v) (evs ++ [.write k a v])

theorem Reaches.trans {s u v : State} {e1 e2 : List Event} (h1 : Reaches s u e1) (h2 : Reaches u v e2) :
    Reaches s v (e1 ++ e2) := by
  induction h2 with
  | refl => simpa using h1
  | silent _ hs ih => exact .silent ih hs
  | idle _ ih => rw [← List.append_assoc]; exact .idle ih
  | read k a v _ ih => rw [← List.append_assoc]; exact .read k a v ih
  | write k a v _ ih => rw [← List.append_assoc]; exact .write k a v ih

/-! ### What follows from it -/

theorem Reaches.map {s t : State} {evs : List Event} (h : Reaches s t evs) : t.bus.map = s.bus.map := by
  induction h with
  | refl => rfl
  | silent _ hs ih => rw [hs.bus, ih]
  | idle _ ih => exact ih
  | read k a v _ ih => exact ih
  | write k a v _ ih => rw [State.writeEvent_bus, Bus.write_map, ih]

theorem Reaches.cart {s t : State} {evs : List Event} (h : Reaches s t evs) : t.bus.cart = s.bus.cart := by
  induction h with
  | refl => rfl
  | silent _ hs ih => rw [hs.bus, ih]
  | idle _ ih => exact ih
  | read k a v _ ih => exact ih
  | write k a v _ ih => rw [State.writeEvent_bus, Bus.write_cart, ih]

theorem Reaches.quadrant {s t : State} {evs : List Event} (h : Reaches s t evs) :
    t.bus.quadrant = s.bus.quadrant := by
  induction h with
  | refl => rfl
  | silent _ hs ih => rw [hs.bus, ih]
  | idle _ ih => exact ih
  | read k a v _ ih => exact ih
  | write k a v _ ih => rw [State.writeEvent_bus, Bus.write_quadrant, ih]

theorem Reaches.wf {s t : State} {evs : List Event} (h : Reaches s t evs) (hs : s.bus.wf = true) :
    t.bus.wf = true := by
  induction h with
  | refl => exact hs
  | silent _ h ih => rw [h.bus, ih]
  | idle _ ih => exact ih
  | read k a v _ ih => exact ih
  | write k a v _ ih => exact Bus.wf_write ih a v

theorem Bus.write_dirty (b : Bus) (a : Addr) (v : Byte) (k : Fin 32) (h : b.dirty.get k = true) :
    (b.write a v).dirty.get k = true := by
  obtain ⟨e, -⟩ | ⟨n, -, e⟩ | ⟨n, -, e⟩ | ⟨l, -, -, -, -, e⟩ := b.write_cases a v
  · rw [e, h]
  · obtain ⟨_, _, e'⟩ := b.viaWrite_eq n v
    rw [e, e']
    simpa using h
  · rw [e]
    simp only [Bus.vramWrite, Vector.get_eq_getElem] at h ⊢
    rw [Vector.getElem_set]
    split <;> simp_all
  · rw [e]
    simpa using h

theorem Reaches.dirty {s t : State} {evs : List Event} (h : Reaches s t evs) (k : Fin 32)
    (hs : s.bus.dirty.get k = true) : t.bus.dirty.get k = true := by
  induction h with
  | refl => exact hs
  | silent _ h ih => rw [h.bus, ih]
  | idle _ ih => exact ih
  | read k a v _ ih => exact ih
  | write k a v _ ih => exact Bus.write_dirty _ a v _ ih

theorem Reaches.parameters {s t : State} {evs : List Event} (h : Reaches s t evs) :
    t.reserved = s.reserved ∧ t.opcode5C = s.opcode5C ∧ t.agents = s.agents ∧ t.resetRequest = s.resetRequest := by
  induction h with
  | refl => exact ⟨rfl, rfl, rfl, rfl⟩
  | silent _ h ih => rw [h.reserved, h.opcode5C, h.agents, h.resetRequest]; exact ih
  | idle _ ih => exact ih
  | read k a v _ ih => exact ih
  | write k a v _ ih => exact ih

/-- The clock: cycles, events, edge detector, log and inputs. -/
theorem Reaches.clocked {s t : State} {evs : List Event} (h : Reaches s t evs) :
    t.cycles = s.cycles + evs.length ∧ t.trace = s.trace ++ evs ∧ t.nmiPrev = s.prevAfter evs.length
      ∧ t.nmiEdge = s.edgeAfter evs.length ∧ t.reports = s.reports ++ reportsOf s.bus evs
      ∧ ∀ k, t.linesAt k = s.linesAt (k + evs.length) := by
  have one (u : State) (evs : List Event) (e : Event) (hm : u.bus.map = s.bus.map)
      (hu : u.cycles = s.cycles + evs.length ∧ u.trace = s.trace ++ evs ∧ u.nmiPrev = s.prevAfter evs.length
        ∧ u.nmiEdge = s.edgeAfter evs.length ∧ u.reports = s.reports ++ reportsOf s.bus evs
        ∧ ∀ k, u.linesAt k = s.linesAt (k + evs.length)) :
      let v := u.tick e (eventReports u.bus e)
      v.cycles = s.cycles + (evs ++ [e]).length ∧ v.trace = s.trace ++ (evs ++ [e])
        ∧ v.nmiPrev = s.prevAfter (evs ++ [e]).length ∧ v.nmiEdge = s.edgeAfter (evs ++ [e]).length
        ∧ v.reports = s.reports ++ reportsOf s.bus (evs ++ [e])
        ∧ ∀ k, v.linesAt k = s.linesAt (k + (evs ++ [e]).length) := by
    obtain ⟨h1, h2, h3, h4, h5, h6⟩ := hu
    have hl : (evs ++ [e]).length = evs.length + 1 := by simp
    rw [hl]
    refine ⟨?_, ?_, ?_, ?_, ?_, ?_⟩
    · rw [State.tick_cycles, h1]; omega
    · rw [State.tick_trace, h2, List.append_assoc]
    · rw [State.tick_nmiPrev, h6, State.prevAfter, Nat.add_comm]
    · rw [State.tick_nmiEdge, h6, h4, h3, State.edgeAfter, Nat.add_comm 1]
    · rw [State.tick_reports, h5, eventReports_congr hm, reportsOf_append, List.append_assoc]
      simp [reportsOf]
    · intro k
      rw [State.tick_linesAt, h6]
      congr 1
      omega
  induction h with
  | refl => simp [State.prevAfter, State.edgeAfter, reportsOf]
  | @silent u v evs _ hs ih =>
    have hl (k : Nat) : v.linesAt k = u.linesAt k := by simp only [State.linesAt, hs.lines, hs.inputs]
    simp only [hs.cycles, hs.trace, hs.nmiPrev, hs.nmiEdge, hs.reports, hl]
    exact ih
  | @idle u evs hr ih => exact one u evs .idle hr.map ih
  | @read u evs k a v hr ih => exact one u evs (.read k a v) hr.map ih
  | @write u evs k a v hr ih =>
    have h := one (u.setBus (u.bus.write a v)) evs (.write k a v) (by simpa using hr.map)
      ⟨ih.1, ih.2.1, ih.2.2.1, ih.2.2.2.1, ih.2.2.2.2.1, ih.2.2.2.2.2⟩
    have e : eventReports (u.setBus (u.bus.write a v)).bus (.write k a v) = u.bus.writeReport a v :=
      Bus.writeReport_congr _ _ a v
    rw [e] at h
    exact h

/-! ### One more thing at the end -/

section

variable {s u : State} {evs : List Event}

theorem Reaches.readEvent (h : Reaches s u evs) (k : ReadKind) (a : Addr) :
    Reaches s (u.readEvent k a) (evs ++ [.read k a (u.readByte a)]) := .read k a _ h

theorem Reaches.fetchByte (h : Reaches s u evs) (v : Byte) :
    Reaches s (u.fetchByte v) (evs ++ [.read .operand u.pc v]) := .silent (.read .operand u.pc v h) (by constructor <;> rfl)

theorem Reaches.push (h : Reaches s u evs) (v : Byte) :
    Reaches s (u.push v) (evs ++ [.write .data (stackAddr u.sp) v]) :=
  .silent (.write .data (stackAddr u.sp) v h) (by constructor <;> rfl)

theorem Reaches.setSp (h : Reaches s u evs) (v : Byte) : Reaches s (u.setSp v) evs := h.silent (by constructor <;> rfl)
theorem Reaches.setA (h : Reaches s u evs) (v : Byte) : Reaches s (u.setA v) evs := h.silent (by constructor <;> rfl)
theorem Reaches.setX (h : Reaches s u evs) (v : Byte) : Reaches s (u.setX v) evs := h.silent (by constructor <;> rfl)
theorem Reaches.setY (h : Reaches s u evs) (v : Byte) : Reaches s (u.setY v) evs := h.silent (by constructor <;> rfl)
theorem Reaches.setPc (h : Reaches s u evs) (v : Addr) : Reaches s (u.setPc v) evs := h.silent (by constructor <;> rfl)
theorem Reaches.setP (h : Reaches s u evs) (v : Flags) : Reaches s (u.setP v) evs := h.silent (by constructor <;> rfl)
theorem Reaches.setWaiting (h : Reaches s u evs) (v : Bool) : Reaches s (u.setWaiting v) evs :=
  h.silent (by constructor <;> rfl)
theorem Reaches.setStopped (h : Reaches s u evs) (v : Bool) : Reaches s (u.setStopped v) evs :=
  h.silent (by constructor <;> rfl)
theorem Reaches.edgeCheck (h : Reaches s u evs) (k : Nat) : Reaches s (u.edgeCheck k) evs :=
  h.silent (by constructor <;> rfl)
theorem Reaches.standardSample (h : Reaches s u evs) : Reaches s u.standardSample evs := h.edgeCheck _

theorem Reaches.pull (h : Reaches s u evs) :
    Reaches s u.pull (evs ++ [.read .data (stackAddr (u.sp + 1)) u.pulled]) := .read _ _ _ (h.setSp (u.sp + 1))

theorem Reaches.loadPc (h : Reaches s u evs) (vector : Addr) :
    Reaches s (u.loadPc vector) (evs ++ [.read .pointer vector (u.readByte vector)]
      ++ [.read .pointer (vector + 1) ((u.readEvent .pointer vector).readByte (vector + 1))]) :=
  ((h.readEvent .pointer vector).readEvent .pointer (vector + 1)).setPc
    (joinBytes ((u.readEvent .pointer vector).readByte (vector + 1)) (u.readByte vector))

end

/-- A mode's fetch. -/
theorem Mode.events_reaches (m : Mode) (s : State) : Reaches s (m.events s) (m.fetchTrace s) := by
  have h : ∃ evs, Reaches s (m.events s) evs := by
    have word (a : Addr) : Reaches s (s.fetchWord a) _ := (Reaches.refl.fetchByte (loByte a)).fetchByte (hiByte a)
    have idx {u : State} {evs : List Event} (hu : Reaches s u evs) (a b : Bool) :
        ∃ evs, Reaches s (u.indexCycle a b) evs := by
      unfold State.indexCycle
      split
      · exact ⟨_, hu.idle⟩
      · exact ⟨_, hu⟩
    have zpp {u : State} {evs : List Event} (hu : Reaches s u evs) (p : Byte) : Reaches s (u.zpPointerEvents p) _ :=
      (hu.readEvent .pointer (zext16 p)).readEvent .pointer (zext16 (p + 1))
    have absp {u : State} {evs : List Event} (hu : Reaches s u evs) (p : Addr) : Reaches s (u.absPointerEvents p) _ :=
      (hu.readEvent .pointer p).readEvent .pointer (p + 1)
    have byte (v : Byte) := (Reaches.refl (s := s)).fetchByte v
    cases m with
    | imp => exact ⟨_, Reaches.refl.idle⟩
    | acc => exact ⟨_, Reaches.refl.idle⟩
    | stk => exact ⟨_, Reaches.refl.idle⟩
    | nop1 => exact ⟨_, Reaches.refl⟩
    | imm v => exact ⟨_, byte v⟩
    | zp z => exact ⟨_, byte z⟩
    | zpx z => exact ⟨_, (byte z).idle⟩
    | zpy z => exact ⟨_, (byte z).idle⟩
    | abs a => exact ⟨_, word a⟩
    | absx a slow => exact idx (word a) _ _
    | absy a slow => exact idx (word a) _ _
    | izx z => exact ⟨_, zpp (byte z).idle _⟩
    | izy z slow => exact idx (zpp (byte z) _) _ _
    | izp z => exact ⟨_, zpp (byte z) _⟩
    | ind a => exact ⟨_, absp (word a).idle _⟩
    | iax a => exact ⟨_, absp (word a).idle _⟩
    | rel off => exact ⟨_, byte _⟩
    | zpr z off => exact ⟨_, (((byte z).readEvent .data (zext16 z)).idle).fetchByte _⟩
    | jsr lo => exact ⟨_, byte lo⟩
    | brk sig => exact ⟨_, byte sig⟩
  obtain ⟨evs, h⟩ := h
  have e : evs = m.fetchTrace s :=
    List.append_cancel_left (h.clocked.2.1.symm.trans (m.events_clock s).trace)
  rw [← e]
  exact h

/-- The opcode event and a mode's fetch. -/
theorem Mode.step_reaches (m : Mode) (s : State) (op : Byte) :
    Reaches (s.beginStep (.executed op)) (m.events (s.opcode op)) (m.stepTrace s op) :=
  (Reaches.refl.fetchByte op).trans (m.events_reaches (s.opcode op))

/-! ### Every instruction -/

/-- The most events a mode's fetch makes. -/
def Mode.fetchBound (m : Mode) : Nat :=
  match m with
  | .nop1 => 0
  | .imp | .acc | .stk | .imm _ | .zp _ | .rel _ | .jsr _ | .brk _ => 1
  | .zpx _ | .zpy _ | .abs _ => 2
  | .absx _ _ | .absy _ _ | .izp _ => 3
  | .izx _ | .izy _ _ | .zpr _ _ => 4
  | .ind _ | .iax _ => 5

theorem indexTrace_length_le (slow crossed : Bool) : (indexTrace slow crossed).length ≤ 1 := by
  unfold indexTrace
  split <;> decide

theorem Mode.fetchTrace_length_le (m : Mode) (s : State) : (m.fetchTrace s).length ≤ m.fetchBound := by
  cases m <;> first
    | exact Nat.le_refl _
    | (simp only [Mode.fetchTrace, Mode.fetchBound, State.wordEvents, State.zpPointerTrace, List.length_append,
        List.length_cons, List.length_nil]
       have := indexTrace_length_le
       exact Nat.add_le_add (Nat.le_refl _) (this _ _))

/-- `f` makes at most `n` events. -/
def Adds (n : Nat) (f : State → State) : Prop :=
  ∀ (s u : State) (evs : List Event), Reaches s u evs → ∃ rest, rest.length ≤ n ∧ Reaches s (f u) (evs ++ rest)

/-- The result of an instruction step: every next state is reached by the opcode, a mode's fetch and some more events,
eight in all at most. -/
def Runs (s : State) (r : Result) : Prop :=
  ∀ t, r = .next t → ∃ op m rest, (Mode.fetchBound m) + rest.length ≤ 7
    ∧ Reaches (s.beginStep (.executed op)) t (m.stepTrace s op ++ rest)

theorem Adds.none {f : State → State} (h : ∀ {s u : State} {evs : List Event}, Reaches s u evs → Reaches s (f u) evs) :
    Adds 0 f := fun _ _ _ hu => ⟨[], Nat.le_refl _, by simpa using h hu⟩

theorem loadA_adds (v : Byte) : Adds 0 (loadA v) := Adds.none fun h => (h.setA _).setP _
theorem loadX_adds (v : Byte) : Adds 0 (loadX v) := Adds.none fun h => (h.setX _).setP _
theorem loadY_adds (v : Byte) : Adds 0 (loadY v) := Adds.none fun h => (h.setY _).setP _
theorem andWith_adds (v : Byte) : Adds 0 (andWith v) := Adds.none fun h => (h.setA _).setP _
theorem oraWith_adds (v : Byte) : Adds 0 (oraWith v) := Adds.none fun h => (h.setA _).setP _
theorem eorWith_adds (v : Byte) : Adds 0 (eorWith v) := Adds.none fun h => (h.setA _).setP _
theorem cmpWith_adds (v : Byte) : Adds 0 (cmpWith v) := Adds.none fun h => h.setP _
theorem cpxWith_adds (v : Byte) : Adds 0 (cpxWith v) := Adds.none fun h => h.setP _
theorem cpyWith_adds (v : Byte) : Adds 0 (cpyWith v) := Adds.none fun h => h.setP _
theorem bitWith_adds (v : Byte) : Adds 0 (bitWith v) := Adds.none fun h => h.setP _
theorem bitImmWith_adds (v : Byte) : Adds 0 (bitImmWith v) := Adds.none fun h => h.setP _

/-- ADC and SBC make one idle cycle in decimal mode. -/
theorem decimal_adds (r : State → Byte × Flags) :
    Adds 1 (fun u => ((if u.p.d then u.idle else u).setA (r u).1).setP (r u).2) := by
  intro s u evs h
  by_cases hd : u.p.d = true
  · exact ⟨[.idle], Nat.le_refl _, by simpa only [hd, if_true] using (h.idle.setA _).setP _⟩
  · exact ⟨[], Nat.zero_le _, by simpa [hd] using (h.setA (r u).1).setP (r u).2⟩

theorem adcWith_adds (v : Byte) : Adds 1 (adcWith v) :=
  decimal_adds fun u => if u.p.d then addDecimal u.a v u.p else addBinary u.a v u.p
theorem sbcWith_adds (v : Byte) : Adds 1 (sbcWith v) :=
  decimal_adds fun u => if u.p.d then subDecimal u.a v u.p else subBinary u.a v u.p

theorem pullInto_adds (f : Byte → State → State) (hf : ∀ v, Adds 0 (f v)) :
    Adds 2 (fun t => f t.idle.pulled t.idle.pull) := by
  intro s u evs h
  obtain ⟨rest, hr, hu⟩ := hf u.idle.pulled _ _ _ h.idle.pull
  rw [List.append_assoc, List.append_assoc] at hu
  refine ⟨_, ?_, hu⟩
  have : rest = [] := List.eq_nil_of_length_eq_zero (by omega)
  rw [this]
  exact Nat.le_refl 2

theorem push_adds (v : State → Byte) : Adds 1 (fun t => t.push (v t)) :=
  fun _ _ _ h => ⟨[_], Nat.le_refl 1, h.push _⟩

theorem idleThen_adds {f : State → State}
    (hf : ∀ {s u : State} {evs : List Event}, Reaches s u evs → Reaches s (f u) evs) : Adds 1 (fun t => f t.idle) :=
  fun _ _ _ h => ⟨[.idle], Nat.le_refl 1, hf h.idle⟩

theorem fourIdles_adds : Adds 4 (fun t => t.idle.idle.idle.idle) :=
  fun _ _ _ h => ⟨List.replicate 4 .idle, Nat.le_refl 4, by simpa using h.idle.idle.idle.idle⟩

theorem fiveIdles_adds : Adds 5 (fun t => t.idle.idle.idle.idle.idle) :=
  fun _ _ _ h => ⟨List.replicate 5 .idle, Nat.le_refl 5, by simpa using h.idle.idle.idle.idle.idle⟩

theorem callSubroutine_adds (lo : Byte) : Adds 4 (callSubroutine lo) := by
  intro s u evs h
  have h1 := ((h.idle.push (hiByte u.pc)).push (loByte u.pc)).readEvent .operand u.pc
  have h2 := h1.setPc (joinBytes (((u.idle.push (hiByte u.pc)).push (loByte u.pc)).readByte u.pc) lo)
  simp only [List.append_assoc] at h2
  refine ⟨_, ?_, h2⟩
  exact Nat.le_refl 4

theorem returnFromSubroutine_adds : Adds 4 returnFromSubroutine := by
  intro s u evs h
  have h2 := (h.idle.pull.pull.idle).setPc (joinBytes u.idle.pull.pulled u.idle.pulled + 1)
  simp only [List.append_assoc] at h2
  refine ⟨_, ?_, h2⟩
  exact Nat.le_refl 4

theorem returnFromException_adds : Adds 4 (fun t => t.idle.returnFromException) := by
  intro s u evs h
  have h1 := ((h.idle.setP (Flags.ofByte u.idle.pulled)).pull).pull.pull
  have h2 := h1.setPc (joinBytes ((u.idle.setP (Flags.ofByte u.idle.pulled)).pull.pull.pulled)
    ((u.idle.setP (Flags.ofByte u.idle.pulled)).pull.pulled))
  simp only [List.append_assoc] at h2
  refine ⟨_, ?_, h2⟩
  exact Nat.le_refl 4

theorem breakException_adds : Adds 5 (fun t => (t.takeException true).2) := by
  intro s u evs h
  have h1 := (h.push (hiByte u.pc)).push (loByte u.pc)
  have h2 : Reaches s (((u.push (hiByte u.pc)).push (loByte u.pc)).setNmiEdge
      (((u.push (hiByte u.pc)).push (loByte u.pc)).nmiEdge
        && !(((u.push (hiByte u.pc)).push (loByte u.pc)).nmiEdge && !true))) _ :=
    h1.silent (by constructor <;> simp)
  have h3 := ((h2.setP u.p.handlerEntry).push (u.p.toByte true)).loadPc 0xFFFE
  simp only [List.append_assoc] at h3
  have e : ((((((u.push (hiByte u.pc)).push (loByte u.pc)).setNmiEdge
      (((u.push (hiByte u.pc)).push (loByte u.pc)).nmiEdge
        && !(((u.push (hiByte u.pc)).push (loByte u.pc)).nmiEdge && !true))).setP u.p.handlerEntry).push
          (u.p.toByte true)).loadPc 0xFFFE) = (u.takeException true).2 := by
    simp [State.takeException]
  rw [e] at h3
  refine ⟨_, ?_, h3⟩
  exact Nat.le_refl 5

/-! ### The frames of an instruction step -/

theorem readInstr_runs {op : Byte} {m : Mode} {use : Byte → State → State} {n : Nat} (hu : ∀ v, Adds n (use v))
    (hn : m.fetchBound + (1 + n) ≤ 7) (s : State) : Runs s (readInstr op m use s) := by
  have h := m.step_reaches s op
  have hi : ∀ v : Byte, ∃ rest, rest.length ≤ n ∧ Reaches (s.beginStep (.executed op))
      (use v (m.events (s.opcode op))).standardSample (m.stepTrace s op ++ rest) := fun v => by
    obtain ⟨rest, hr, h2⟩ := hu v _ _ _ h
    exact ⟨rest, hr, h2.standardSample⟩
  intro t ht
  unfold readInstr runInstr readOp at ht
  cases hacc : m.accessor (s.opcode op) <;>
    simp only [hacc, Except.map, Host.Outcome.next.injEq, reduceCtorEq] at ht
  case regA => obtain ⟨rest, hr, h2⟩ := hi (m.events (s.opcode op)).a; exact ⟨op, m, rest, by omega, ht ▸ h2⟩
  case imm v => obtain ⟨rest, hr, h2⟩ := hi v; exact ⟨op, m, rest, by omega, ht ▸ h2⟩
  case bitBranch v _ => obtain ⟨rest, hr, h2⟩ := hi v; exact ⟨op, m, rest, by omega, ht ▸ h2⟩
  case addr ea =>
    obtain ⟨rest, hr, h2⟩ := hu ((m.events (s.opcode op)).readByte ea) _ _ _ (h.readEvent .data ea)
    rw [List.append_assoc] at h2
    exact ⟨op, m, _ :: rest, by simp only [List.length_cons]; omega, ht ▸ h2.standardSample⟩

theorem writeInstr_runs {op : Byte} {m : Mode} {v : Byte} (hn : m.fetchBound + 1 ≤ 7) (s : State) :
    Runs s (writeInstr op m v s) := by
  have h := m.step_reaches s op
  intro t ht
  unfold writeInstr runInstr writeOp at ht
  cases hacc : m.accessor (s.opcode op) <;>
    simp only [hacc, Except.map, Host.Outcome.next.injEq, reduceCtorEq] at ht
  case regA => exact ⟨op, m, [], by simp; omega, by rw [List.append_nil]; exact ht ▸ (h.setA v).standardSample⟩
  case addr ea => exact ⟨op, m, [_], by simpa using hn, ht ▸ (Reaches.write .data ea v h).standardSample⟩

theorem rmwInstr_runs {op : Byte} {m : Mode} {f : Byte → Flags → Byte × Flags} (hn : m.fetchBound + 3 ≤ 7) (s : State) :
    Runs s (rmwInstr op m f s) := by
  have h := m.step_reaches s op
  intro t ht
  unfold rmwInstr runInstr rmwOp at ht
  cases hacc : m.accessor (s.opcode op) <;>
    simp only [hacc, Except.map, Host.Outcome.next.injEq, reduceCtorEq] at ht
  case regA =>
    exact ⟨op, m, [], by simp; omega, by rw [List.append_nil]; exact ht ▸ ((h.setA _).setP _).standardSample⟩
  case addr ea =>
    have h3 := ((Reaches.write .locked ea (f ((m.events (s.opcode op)).readByte ea) (m.events (s.opcode op)).p).1
      (Reaches.write .locked ea ((m.events (s.opcode op)).readByte ea) (h.readEvent .locked ea))).setP
        (f ((m.events (s.opcode op)).readByte ea) (m.events (s.opcode op)).p).2).standardSample
    simp only [List.append_assoc] at h3
    subst ht
    refine ⟨op, m, _, ?_, h3⟩
    exact hn

theorem jumpInstr_runs {op : Byte} {m : Mode} (hn : m.fetchBound ≤ 7) (s : State) : Runs s (jumpInstr op m s) := by
  have h := m.step_reaches s op
  intro t ht
  unfold jumpInstr runInstr effectiveAddress at ht
  cases hacc : m.accessor (s.opcode op) <;>
    simp only [hacc, Except.map, Host.Outcome.next.injEq, reduceCtorEq] at ht
  exact ⟨op, m, [], by simpa using hn, by rw [List.append_nil]; exact ht ▸ (h.setPc _).standardSample⟩

theorem plainInstr_runs {op : Byte} {m : Mode} {f : State → State} {n : Nat} (hf : Adds n f)
    (hn : m.fetchBound + n ≤ 7) (s : State) : Runs s (plainInstr op m f s) := by
  intro t ht
  rw [plainInstr_spec, Host.Outcome.next.injEq] at ht
  obtain ⟨rest, hr, h⟩ := hf _ _ _ (m.step_reaches s op)
  exact ⟨op, m, rest, by omega, ht ▸ h.standardSample⟩

/-- BranchOp makes two events at most. -/
theorem branchTo_adds (target : Addr) (taken : Bool) : Adds 2 (fun u => u.branchTo target taken) := by
  intro s u evs h
  have h1 := h.edgeCheck (u.samples.length - 1)
  unfold State.branchTo
  by_cases ht : taken = true
  · by_cases hx : pageCrossed u.pc target = true
    · have h2 := (h1.idle.idle.edgeCheck (u.samples.length + 1)).setPc target
      rw [List.append_assoc] at h2
      exact ⟨[.idle, .idle], Nat.le_refl _, by simpa [ht, hx] using h2⟩
    · exact ⟨[.idle], by decide, by simpa [ht, hx] using h1.idle.setPc target⟩
  · exact ⟨[], by decide, by simpa [ht] using h1⟩

theorem branchInstr_runs {op : Byte} {off : Int} {cond : Flags → Bool} (s : State) :
    Runs s (branchInstr op off cond s) := by
  intro t ht
  rw [branchInstr_eq, Host.Outcome.next.injEq] at ht
  obtain ⟨rest, hr, h⟩ := branchTo_adds ((Mode.rel off).target (s.opcode op)) (cond s.p) _ _ _ ((Mode.rel off).step_reaches s op)
  subst ht
  exact ⟨op, .rel off, rest, by simp only [Mode.fetchBound]; omega, h⟩

theorem bitBranchInstr_runs {op z : Byte} {off : Int} {cond : Byte → Bool} (s : State) :
    Runs s (bitBranchInstr op z off cond s) := by
  intro t ht
  rw [bitBranchInstr_eq, Host.Outcome.next.injEq] at ht
  obtain ⟨rest, hr, h⟩ := branchTo_adds ((Mode.zpr z off).target (s.opcode op))
    (cond ((s.opcode op).byteAt 2 (zext16 z))) _ _ _ ((Mode.zpr z off).step_reaches s op)
  subst ht
  exact ⟨op, .zpr z off, rest, by simp only [Mode.fetchBound]; omega, h⟩

theorem reservedStep_runs {op : Byte} {run : State → Result} {s : State} (h : Runs s (run s)) :
    Runs s (reservedStep op run s) := by
  intro t ht
  unfold reservedStep at ht
  split at ht
  · simp only [reduceCtorEq] at ht
  · exact h t ht

theorem execNop5C_runs (a : Addr) (s : State) : Runs s (execNop5C a s) := by
  refine reservedStep_runs ?_
  cases s.opcode5C
  · exact plainInstr_runs (m := (.abs a)) fiveIdles_adds (Nat.le_of_ble_eq_true rfl) s
  · exact readInstr_runs (m := (.abs a)) (fun _ => fourIdles_adds) (Nat.le_of_ble_eq_true rfl) s

/-- Every instruction. -/
theorem exec_runs (i : Instr) (s : State) : Runs s (exec i s) := by
  cases i with
  | brk sig => exact plainInstr_runs (m := (.brk sig)) breakException_adds (Nat.le_of_ble_eq_true rfl) s
  | oraIzx z => exact readInstr_runs (m := (.izx z)) oraWith_adds (Nat.le_of_ble_eq_true rfl) s
  | nop02 v => exact reservedStep_runs (readInstr_runs (m := (.imm v)) (fun _ => Adds.none fun h => h) (Nat.le_of_ble_eq_true rfl) s)
  | nop03 => exact reservedStep_runs (plainInstr_runs (m := .nop1) (Adds.none fun h => h) (Nat.le_of_ble_eq_true rfl) s)
  | tsbZp z => exact rmwInstr_runs (m := (.zp z)) (Nat.le_of_ble_eq_true rfl) s
  | oraZp z => exact readInstr_runs (m := (.zp z)) oraWith_adds (Nat.le_of_ble_eq_true rfl) s
  | aslZp z => exact rmwInstr_runs (m := (.zp z)) (Nat.le_of_ble_eq_true rfl) s
  | rmb0 z => exact rmwInstr_runs (m := (.zp z)) (Nat.le_of_ble_eq_true rfl) s
  | php => exact plainInstr_runs (m := .stk) (push_adds (fun t => (t.p.toByte true))) (Nat.le_of_ble_eq_true rfl) s
  | oraImm v => exact readInstr_runs (m := (.imm v)) oraWith_adds (Nat.le_of_ble_eq_true rfl) s
  | aslAcc => exact rmwInstr_runs (m := .acc) (Nat.le_of_ble_eq_true rfl) s
  | nop0B => exact reservedStep_runs (plainInstr_runs (m := .nop1) (Adds.none fun h => h) (Nat.le_of_ble_eq_true rfl) s)
  | tsbAbs a => exact rmwInstr_runs (m := (.abs a)) (Nat.le_of_ble_eq_true rfl) s
  | oraAbs a => exact readInstr_runs (m := (.abs a)) oraWith_adds (Nat.le_of_ble_eq_true rfl) s
  | aslAbs a => exact rmwInstr_runs (m := (.abs a)) (Nat.le_of_ble_eq_true rfl) s
  | bbr0 z off => exact bitBranchInstr_runs (cond := fun m => !m.getLsbD 0) s
  | bpl off => exact branchInstr_runs (cond := fun p => !p.n) s
  | oraIzy z => exact readInstr_runs (m := (.izy z false)) oraWith_adds (Nat.le_of_ble_eq_true rfl) s
  | oraIzp z => exact readInstr_runs (m := (.izp z)) oraWith_adds (Nat.le_of_ble_eq_true rfl) s
  | nop13 => exact reservedStep_runs (plainInstr_runs (m := .nop1) (Adds.none fun h => h) (Nat.le_of_ble_eq_true rfl) s)
  | trbZp z => exact rmwInstr_runs (m := (.zp z)) (Nat.le_of_ble_eq_true rfl) s
  | oraZpx z => exact readInstr_runs (m := (.zpx z)) oraWith_adds (Nat.le_of_ble_eq_true rfl) s
  | aslZpx z => exact rmwInstr_runs (m := (.zpx z)) (Nat.le_of_ble_eq_true rfl) s
  | rmb1 z => exact rmwInstr_runs (m := (.zp z)) (Nat.le_of_ble_eq_true rfl) s
  | clc => exact plainInstr_runs (m := .imp) (Adds.none fun h => h.setP _) (Nat.le_of_ble_eq_true rfl) s
  | oraAbsy a => exact readInstr_runs (m := (.absy a false)) oraWith_adds (Nat.le_of_ble_eq_true rfl) s
  | incAcc => exact rmwInstr_runs (m := .acc) (Nat.le_of_ble_eq_true rfl) s
  | nop1B => exact reservedStep_runs (plainInstr_runs (m := .nop1) (Adds.none fun h => h) (Nat.le_of_ble_eq_true rfl) s)
  | trbAbs a => exact rmwInstr_runs (m := (.abs a)) (Nat.le_of_ble_eq_true rfl) s
  | oraAbsx a => exact readInstr_runs (m := (.absx a false)) oraWith_adds (Nat.le_of_ble_eq_true rfl) s
  | aslAbsx a => exact rmwInstr_runs (m := (.absx a false)) (Nat.le_of_ble_eq_true rfl) s
  | bbr1 z off => exact bitBranchInstr_runs (cond := fun m => !m.getLsbD 1) s
  | jsr a => exact plainInstr_runs (m := (.jsr (loByte a))) (callSubroutine_adds _) (Nat.le_of_ble_eq_true rfl) s
  | andIzx z => exact readInstr_runs (m := (.izx z)) andWith_adds (Nat.le_of_ble_eq_true rfl) s
  | nop22 v => exact reservedStep_runs (readInstr_runs (m := (.imm v)) (fun _ => Adds.none fun h => h) (Nat.le_of_ble_eq_true rfl) s)
  | nop23 => exact reservedStep_runs (plainInstr_runs (m := .nop1) (Adds.none fun h => h) (Nat.le_of_ble_eq_true rfl) s)
  | bitZp z => exact readInstr_runs (m := (.zp z)) bitWith_adds (Nat.le_of_ble_eq_true rfl) s
  | andZp z => exact readInstr_runs (m := (.zp z)) andWith_adds (Nat.le_of_ble_eq_true rfl) s
  | rolZp z => exact rmwInstr_runs (m := (.zp z)) (Nat.le_of_ble_eq_true rfl) s
  | rmb2 z => exact rmwInstr_runs (m := (.zp z)) (Nat.le_of_ble_eq_true rfl) s
  | plp => exact plainInstr_runs (m := .stk) (pullInto_adds (fun v t => t.setP (Flags.ofByte v)) fun _ => Adds.none fun h => h.setP _) (Nat.le_of_ble_eq_true rfl) s
  | andImm v => exact readInstr_runs (m := (.imm v)) andWith_adds (Nat.le_of_ble_eq_true rfl) s
  | rolAcc => exact rmwInstr_runs (m := .acc) (Nat.le_of_ble_eq_true rfl) s
  | nop2B => exact reservedStep_runs (plainInstr_runs (m := .nop1) (Adds.none fun h => h) (Nat.le_of_ble_eq_true rfl) s)
  | bitAbs a => exact readInstr_runs (m := (.abs a)) bitWith_adds (Nat.le_of_ble_eq_true rfl) s
  | andAbs a => exact readInstr_runs (m := (.abs a)) andWith_adds (Nat.le_of_ble_eq_true rfl) s
  | rolAbs a => exact rmwInstr_runs (m := (.abs a)) (Nat.le_of_ble_eq_true rfl) s
  | bbr2 z off => exact bitBranchInstr_runs (cond := fun m => !m.getLsbD 2) s
  | bmi off => exact branchInstr_runs (cond := fun p => p.n) s
  | andIzy z => exact readInstr_runs (m := (.izy z false)) andWith_adds (Nat.le_of_ble_eq_true rfl) s
  | andIzp z => exact readInstr_runs (m := (.izp z)) andWith_adds (Nat.le_of_ble_eq_true rfl) s
  | nop33 => exact reservedStep_runs (plainInstr_runs (m := .nop1) (Adds.none fun h => h) (Nat.le_of_ble_eq_true rfl) s)
  | bitZpx z => exact readInstr_runs (m := (.zpx z)) bitWith_adds (Nat.le_of_ble_eq_true rfl) s
  | andZpx z => exact readInstr_runs (m := (.zpx z)) andWith_adds (Nat.le_of_ble_eq_true rfl) s
  | rolZpx z => exact rmwInstr_runs (m := (.zpx z)) (Nat.le_of_ble_eq_true rfl) s
  | rmb3 z => exact rmwInstr_runs (m := (.zp z)) (Nat.le_of_ble_eq_true rfl) s
  | sec => exact plainInstr_runs (m := .imp) (Adds.none fun h => h.setP _) (Nat.le_of_ble_eq_true rfl) s
  | andAbsy a => exact readInstr_runs (m := (.absy a false)) andWith_adds (Nat.le_of_ble_eq_true rfl) s
  | decAcc => exact rmwInstr_runs (m := .acc) (Nat.le_of_ble_eq_true rfl) s
  | nop3B => exact reservedStep_runs (plainInstr_runs (m := .nop1) (Adds.none fun h => h) (Nat.le_of_ble_eq_true rfl) s)
  | bitAbsx a => exact readInstr_runs (m := (.absx a false)) bitWith_adds (Nat.le_of_ble_eq_true rfl) s
  | andAbsx a => exact readInstr_runs (m := (.absx a false)) andWith_adds (Nat.le_of_ble_eq_true rfl) s
  | rolAbsx a => exact rmwInstr_runs (m := (.absx a false)) (Nat.le_of_ble_eq_true rfl) s
  | bbr3 z off => exact bitBranchInstr_runs (cond := fun m => !m.getLsbD 3) s
  | rti => exact plainInstr_runs (m := .stk) returnFromException_adds (Nat.le_of_ble_eq_true rfl) s
  | eorIzx z => exact readInstr_runs (m := (.izx z)) eorWith_adds (Nat.le_of_ble_eq_true rfl) s
  | nop42 v => exact reservedStep_runs (readInstr_runs (m := (.imm v)) (fun _ => Adds.none fun h => h) (Nat.le_of_ble_eq_true rfl) s)
  | nop43 => exact reservedStep_runs (plainInstr_runs (m := .nop1) (Adds.none fun h => h) (Nat.le_of_ble_eq_true rfl) s)
  | nop44 z => exact reservedStep_runs (readInstr_runs (m := (.zp z)) (fun _ => Adds.none fun h => h) (Nat.le_of_ble_eq_true rfl) s)
  | eorZp z => exact readInstr_runs (m := (.zp z)) eorWith_adds (Nat.le_of_ble_eq_true rfl) s
  | lsrZp z => exact rmwInstr_runs (m := (.zp z)) (Nat.le_of_ble_eq_true rfl) s
  | rmb4 z => exact rmwInstr_runs (m := (.zp z)) (Nat.le_of_ble_eq_true rfl) s
  | pha => exact plainInstr_runs (m := .stk) (push_adds (fun t => t.a)) (Nat.le_of_ble_eq_true rfl) s
  | eorImm v => exact readInstr_runs (m := (.imm v)) eorWith_adds (Nat.le_of_ble_eq_true rfl) s
  | lsrAcc => exact rmwInstr_runs (m := .acc) (Nat.le_of_ble_eq_true rfl) s
  | nop4B => exact reservedStep_runs (plainInstr_runs (m := .nop1) (Adds.none fun h => h) (Nat.le_of_ble_eq_true rfl) s)
  | jmpAbs a => exact jumpInstr_runs (m := (.abs a)) (Nat.le_of_ble_eq_true rfl) s
  | eorAbs a => exact readInstr_runs (m := (.abs a)) eorWith_adds (Nat.le_of_ble_eq_true rfl) s
  | lsrAbs a => exact rmwInstr_runs (m := (.abs a)) (Nat.le_of_ble_eq_true rfl) s
  | bbr4 z off => exact bitBranchInstr_runs (cond := fun m => !m.getLsbD 4) s
  | bvc off => exact branchInstr_runs (cond := fun p => !p.v) s
  | eorIzy z => exact readInstr_runs (m := (.izy z false)) eorWith_adds (Nat.le_of_ble_eq_true rfl) s
  | eorIzp z => exact readInstr_runs (m := (.izp z)) eorWith_adds (Nat.le_of_ble_eq_true rfl) s
  | nop53 => exact reservedStep_runs (plainInstr_runs (m := .nop1) (Adds.none fun h => h) (Nat.le_of_ble_eq_true rfl) s)
  | nop54 z => exact reservedStep_runs (readInstr_runs (m := (.zpx z)) (fun _ => Adds.none fun h => h) (Nat.le_of_ble_eq_true rfl) s)
  | eorZpx z => exact readInstr_runs (m := (.zpx z)) eorWith_adds (Nat.le_of_ble_eq_true rfl) s
  | lsrZpx z => exact rmwInstr_runs (m := (.zpx z)) (Nat.le_of_ble_eq_true rfl) s
  | rmb5 z => exact rmwInstr_runs (m := (.zp z)) (Nat.le_of_ble_eq_true rfl) s
  | cli => exact plainInstr_runs (m := .imp) (Adds.none fun h => h.setP _) (Nat.le_of_ble_eq_true rfl) s
  | eorAbsy a => exact readInstr_runs (m := (.absy a false)) eorWith_adds (Nat.le_of_ble_eq_true rfl) s
  | phy => exact plainInstr_runs (m := .stk) (push_adds (fun t => t.y)) (Nat.le_of_ble_eq_true rfl) s
  | nop5B => exact reservedStep_runs (plainInstr_runs (m := .nop1) (Adds.none fun h => h) (Nat.le_of_ble_eq_true rfl) s)
  | nop5C a => exact execNop5C_runs a s
  | eorAbsx a => exact readInstr_runs (m := (.absx a false)) eorWith_adds (Nat.le_of_ble_eq_true rfl) s
  | lsrAbsx a => exact rmwInstr_runs (m := (.absx a false)) (Nat.le_of_ble_eq_true rfl) s
  | bbr5 z off => exact bitBranchInstr_runs (cond := fun m => !m.getLsbD 5) s
  | rts => exact plainInstr_runs (m := .stk) returnFromSubroutine_adds (Nat.le_of_ble_eq_true rfl) s
  | adcIzx z => exact readInstr_runs (m := (.izx z)) adcWith_adds (Nat.le_of_ble_eq_true rfl) s
  | nop62 v => exact reservedStep_runs (readInstr_runs (m := (.imm v)) (fun _ => Adds.none fun h => h) (Nat.le_of_ble_eq_true rfl) s)
  | nop63 => exact reservedStep_runs (plainInstr_runs (m := .nop1) (Adds.none fun h => h) (Nat.le_of_ble_eq_true rfl) s)
  | stzZp z => exact writeInstr_runs (m := (.zp z)) (Nat.le_of_ble_eq_true rfl) s
  | adcZp z => exact readInstr_runs (m := (.zp z)) adcWith_adds (Nat.le_of_ble_eq_true rfl) s
  | rorZp z => exact rmwInstr_runs (m := (.zp z)) (Nat.le_of_ble_eq_true rfl) s
  | rmb6 z => exact rmwInstr_runs (m := (.zp z)) (Nat.le_of_ble_eq_true rfl) s
  | pla => exact plainInstr_runs (m := .stk) (pullInto_adds loadA loadA_adds) (Nat.le_of_ble_eq_true rfl) s
  | adcImm v => exact readInstr_runs (m := (.imm v)) adcWith_adds (Nat.le_of_ble_eq_true rfl) s
  | rorAcc => exact rmwInstr_runs (m := .acc) (Nat.le_of_ble_eq_true rfl) s
  | nop6B => exact reservedStep_runs (plainInstr_runs (m := .nop1) (Adds.none fun h => h) (Nat.le_of_ble_eq_true rfl) s)
  | jmpInd a => exact jumpInstr_runs (m := (.ind a)) (Nat.le_of_ble_eq_true rfl) s
  | adcAbs a => exact readInstr_runs (m := (.abs a)) adcWith_adds (Nat.le_of_ble_eq_true rfl) s
  | rorAbs a => exact rmwInstr_runs (m := (.abs a)) (Nat.le_of_ble_eq_true rfl) s
  | bbr6 z off => exact bitBranchInstr_runs (cond := fun m => !m.getLsbD 6) s
  | bvs off => exact branchInstr_runs (cond := fun p => p.v) s
  | adcIzy z => exact readInstr_runs (m := (.izy z false)) adcWith_adds (Nat.le_of_ble_eq_true rfl) s
  | adcIzp z => exact readInstr_runs (m := (.izp z)) adcWith_adds (Nat.le_of_ble_eq_true rfl) s
  | nop73 => exact reservedStep_runs (plainInstr_runs (m := .nop1) (Adds.none fun h => h) (Nat.le_of_ble_eq_true rfl) s)
  | stzZpx z => exact writeInstr_runs (m := (.zpx z)) (Nat.le_of_ble_eq_true rfl) s
  | adcZpx z => exact readInstr_runs (m := (.zpx z)) adcWith_adds (Nat.le_of_ble_eq_true rfl) s
  | rorZpx z => exact rmwInstr_runs (m := (.zpx z)) (Nat.le_of_ble_eq_true rfl) s
  | rmb7 z => exact rmwInstr_runs (m := (.zp z)) (Nat.le_of_ble_eq_true rfl) s
  | sei => exact plainInstr_runs (m := .imp) (Adds.none fun h => h.setP _) (Nat.le_of_ble_eq_true rfl) s
  | adcAbsy a => exact readInstr_runs (m := (.absy a false)) adcWith_adds (Nat.le_of_ble_eq_true rfl) s
  | ply => exact plainInstr_runs (m := .stk) (pullInto_adds loadY loadY_adds) (Nat.le_of_ble_eq_true rfl) s
  | nop7B => exact reservedStep_runs (plainInstr_runs (m := .nop1) (Adds.none fun h => h) (Nat.le_of_ble_eq_true rfl) s)
  | jmpIax a => exact jumpInstr_runs (m := (.iax a)) (Nat.le_of_ble_eq_true rfl) s
  | adcAbsx a => exact readInstr_runs (m := (.absx a false)) adcWith_adds (Nat.le_of_ble_eq_true rfl) s
  | rorAbsx a => exact rmwInstr_runs (m := (.absx a false)) (Nat.le_of_ble_eq_true rfl) s
  | bbr7 z off => exact bitBranchInstr_runs (cond := fun m => !m.getLsbD 7) s
  | bra off => exact branchInstr_runs (cond := fun _ => true) s
  | staIzx z => exact writeInstr_runs (m := (.izx z)) (Nat.le_of_ble_eq_true rfl) s
  | nop82 v => exact reservedStep_runs (readInstr_runs (m := (.imm v)) (fun _ => Adds.none fun h => h) (Nat.le_of_ble_eq_true rfl) s)
  | nop83 => exact reservedStep_runs (plainInstr_runs (m := .nop1) (Adds.none fun h => h) (Nat.le_of_ble_eq_true rfl) s)
  | styZp z => exact writeInstr_runs (m := (.zp z)) (Nat.le_of_ble_eq_true rfl) s
  | staZp z => exact writeInstr_runs (m := (.zp z)) (Nat.le_of_ble_eq_true rfl) s
  | stxZp z => exact writeInstr_runs (m := (.zp z)) (Nat.le_of_ble_eq_true rfl) s
  | smb0 z => exact rmwInstr_runs (m := (.zp z)) (Nat.le_of_ble_eq_true rfl) s
  | dey => exact plainInstr_runs (m := .imp) (Adds.none fun h => (h.setY _).setP _) (Nat.le_of_ble_eq_true rfl) s
  | bitImm v => exact readInstr_runs (m := (.imm v)) bitImmWith_adds (Nat.le_of_ble_eq_true rfl) s
  | txa => exact plainInstr_runs (m := .imp) (Adds.none fun h => (h.setA _).setP _) (Nat.le_of_ble_eq_true rfl) s
  | nop8B => exact reservedStep_runs (plainInstr_runs (m := .nop1) (Adds.none fun h => h) (Nat.le_of_ble_eq_true rfl) s)
  | styAbs a => exact writeInstr_runs (m := (.abs a)) (Nat.le_of_ble_eq_true rfl) s
  | staAbs a => exact writeInstr_runs (m := (.abs a)) (Nat.le_of_ble_eq_true rfl) s
  | stxAbs a => exact writeInstr_runs (m := (.abs a)) (Nat.le_of_ble_eq_true rfl) s
  | bbs0 z off => exact bitBranchInstr_runs (cond := fun m => m.getLsbD 0) s
  | bcc off => exact branchInstr_runs (cond := fun p => !p.c) s
  | staIzy z => exact writeInstr_runs (m := (.izy z true)) (Nat.le_of_ble_eq_true rfl) s
  | staIzp z => exact writeInstr_runs (m := (.izp z)) (Nat.le_of_ble_eq_true rfl) s
  | nop93 => exact reservedStep_runs (plainInstr_runs (m := .nop1) (Adds.none fun h => h) (Nat.le_of_ble_eq_true rfl) s)
  | styZpx z => exact writeInstr_runs (m := (.zpx z)) (Nat.le_of_ble_eq_true rfl) s
  | staZpx z => exact writeInstr_runs (m := (.zpx z)) (Nat.le_of_ble_eq_true rfl) s
  | stxZpy z => exact writeInstr_runs (m := (.zpy z)) (Nat.le_of_ble_eq_true rfl) s
  | smb1 z => exact rmwInstr_runs (m := (.zp z)) (Nat.le_of_ble_eq_true rfl) s
  | tya => exact plainInstr_runs (m := .imp) (Adds.none fun h => (h.setA _).setP _) (Nat.le_of_ble_eq_true rfl) s
  | staAbsy a => exact writeInstr_runs (m := (.absy a true)) (Nat.le_of_ble_eq_true rfl) s
  | txs => exact plainInstr_runs (m := .imp) (Adds.none fun h => h.setSp _) (Nat.le_of_ble_eq_true rfl) s
  | nop9B => exact reservedStep_runs (plainInstr_runs (m := .nop1) (Adds.none fun h => h) (Nat.le_of_ble_eq_true rfl) s)
  | stzAbs a => exact writeInstr_runs (m := (.abs a)) (Nat.le_of_ble_eq_true rfl) s
  | staAbsx a => exact writeInstr_runs (m := (.absx a true)) (Nat.le_of_ble_eq_true rfl) s
  | stzAbsx a => exact writeInstr_runs (m := (.absx a true)) (Nat.le_of_ble_eq_true rfl) s
  | bbs1 z off => exact bitBranchInstr_runs (cond := fun m => m.getLsbD 1) s
  | ldyImm v => exact readInstr_runs (m := (.imm v)) loadY_adds (Nat.le_of_ble_eq_true rfl) s
  | ldaIzx z => exact readInstr_runs (m := (.izx z)) loadA_adds (Nat.le_of_ble_eq_true rfl) s
  | ldxImm v => exact readInstr_runs (m := (.imm v)) loadX_adds (Nat.le_of_ble_eq_true rfl) s
  | nopA3 => exact reservedStep_runs (plainInstr_runs (m := .nop1) (Adds.none fun h => h) (Nat.le_of_ble_eq_true rfl) s)
  | ldyZp z => exact readInstr_runs (m := (.zp z)) loadY_adds (Nat.le_of_ble_eq_true rfl) s
  | ldaZp z => exact readInstr_runs (m := (.zp z)) loadA_adds (Nat.le_of_ble_eq_true rfl) s
  | ldxZp z => exact readInstr_runs (m := (.zp z)) loadX_adds (Nat.le_of_ble_eq_true rfl) s
  | smb2 z => exact rmwInstr_runs (m := (.zp z)) (Nat.le_of_ble_eq_true rfl) s
  | tay => exact plainInstr_runs (m := .imp) (Adds.none fun h => (h.setY _).setP _) (Nat.le_of_ble_eq_true rfl) s
  | ldaImm v => exact readInstr_runs (m := (.imm v)) loadA_adds (Nat.le_of_ble_eq_true rfl) s
  | tax => exact plainInstr_runs (m := .imp) (Adds.none fun h => (h.setX _).setP _) (Nat.le_of_ble_eq_true rfl) s
  | nopAB => exact reservedStep_runs (plainInstr_runs (m := .nop1) (Adds.none fun h => h) (Nat.le_of_ble_eq_true rfl) s)
  | ldyAbs a => exact readInstr_runs (m := (.abs a)) loadY_adds (Nat.le_of_ble_eq_true rfl) s
  | ldaAbs a => exact readInstr_runs (m := (.abs a)) loadA_adds (Nat.le_of_ble_eq_true rfl) s
  | ldxAbs a => exact readInstr_runs (m := (.abs a)) loadX_adds (Nat.le_of_ble_eq_true rfl) s
  | bbs2 z off => exact bitBranchInstr_runs (cond := fun m => m.getLsbD 2) s
  | bcs off => exact branchInstr_runs (cond := fun p => p.c) s
  | ldaIzy z => exact readInstr_runs (m := (.izy z false)) loadA_adds (Nat.le_of_ble_eq_true rfl) s
  | ldaIzp z => exact readInstr_runs (m := (.izp z)) loadA_adds (Nat.le_of_ble_eq_true rfl) s
  | nopB3 => exact reservedStep_runs (plainInstr_runs (m := .nop1) (Adds.none fun h => h) (Nat.le_of_ble_eq_true rfl) s)
  | ldyZpx z => exact readInstr_runs (m := (.zpx z)) loadY_adds (Nat.le_of_ble_eq_true rfl) s
  | ldaZpx z => exact readInstr_runs (m := (.zpx z)) loadA_adds (Nat.le_of_ble_eq_true rfl) s
  | ldxZpy z => exact readInstr_runs (m := (.zpy z)) loadX_adds (Nat.le_of_ble_eq_true rfl) s
  | smb3 z => exact rmwInstr_runs (m := (.zp z)) (Nat.le_of_ble_eq_true rfl) s
  | clv => exact plainInstr_runs (m := .imp) (Adds.none fun h => h.setP _) (Nat.le_of_ble_eq_true rfl) s
  | ldaAbsy a => exact readInstr_runs (m := (.absy a false)) loadA_adds (Nat.le_of_ble_eq_true rfl) s
  | tsx => exact plainInstr_runs (m := .imp) (Adds.none fun h => (h.setX _).setP _) (Nat.le_of_ble_eq_true rfl) s
  | nopBB => exact reservedStep_runs (plainInstr_runs (m := .nop1) (Adds.none fun h => h) (Nat.le_of_ble_eq_true rfl) s)
  | ldyAbsx a => exact readInstr_runs (m := (.absx a false)) loadY_adds (Nat.le_of_ble_eq_true rfl) s
  | ldaAbsx a => exact readInstr_runs (m := (.absx a false)) loadA_adds (Nat.le_of_ble_eq_true rfl) s
  | ldxAbsy a => exact readInstr_runs (m := (.absy a false)) loadX_adds (Nat.le_of_ble_eq_true rfl) s
  | bbs3 z off => exact bitBranchInstr_runs (cond := fun m => m.getLsbD 3) s
  | cpyImm v => exact readInstr_runs (m := (.imm v)) cpyWith_adds (Nat.le_of_ble_eq_true rfl) s
  | cmpIzx z => exact readInstr_runs (m := (.izx z)) cmpWith_adds (Nat.le_of_ble_eq_true rfl) s
  | nopC2 v => exact reservedStep_runs (readInstr_runs (m := (.imm v)) (fun _ => Adds.none fun h => h) (Nat.le_of_ble_eq_true rfl) s)
  | nopC3 => exact reservedStep_runs (plainInstr_runs (m := .nop1) (Adds.none fun h => h) (Nat.le_of_ble_eq_true rfl) s)
  | cpyZp z => exact readInstr_runs (m := (.zp z)) cpyWith_adds (Nat.le_of_ble_eq_true rfl) s
  | cmpZp z => exact readInstr_runs (m := (.zp z)) cmpWith_adds (Nat.le_of_ble_eq_true rfl) s
  | decZp z => exact rmwInstr_runs (m := (.zp z)) (Nat.le_of_ble_eq_true rfl) s
  | smb4 z => exact rmwInstr_runs (m := (.zp z)) (Nat.le_of_ble_eq_true rfl) s
  | iny => exact plainInstr_runs (m := .imp) (Adds.none fun h => (h.setY _).setP _) (Nat.le_of_ble_eq_true rfl) s
  | cmpImm v => exact readInstr_runs (m := (.imm v)) cmpWith_adds (Nat.le_of_ble_eq_true rfl) s
  | dex => exact plainInstr_runs (m := .imp) (Adds.none fun h => (h.setX _).setP _) (Nat.le_of_ble_eq_true rfl) s
  | wai => exact plainInstr_runs (m := .imp) (idleThen_adds fun h => h.setWaiting _) (Nat.le_of_ble_eq_true rfl) s
  | cpyAbs a => exact readInstr_runs (m := (.abs a)) cpyWith_adds (Nat.le_of_ble_eq_true rfl) s
  | cmpAbs a => exact readInstr_runs (m := (.abs a)) cmpWith_adds (Nat.le_of_ble_eq_true rfl) s
  | decAbs a => exact rmwInstr_runs (m := (.abs a)) (Nat.le_of_ble_eq_true rfl) s
  | bbs4 z off => exact bitBranchInstr_runs (cond := fun m => m.getLsbD 4) s
  | bne off => exact branchInstr_runs (cond := fun p => !p.z) s
  | cmpIzy z => exact readInstr_runs (m := (.izy z false)) cmpWith_adds (Nat.le_of_ble_eq_true rfl) s
  | cmpIzp z => exact readInstr_runs (m := (.izp z)) cmpWith_adds (Nat.le_of_ble_eq_true rfl) s
  | nopD3 => exact reservedStep_runs (plainInstr_runs (m := .nop1) (Adds.none fun h => h) (Nat.le_of_ble_eq_true rfl) s)
  | nopD4 z => exact reservedStep_runs (readInstr_runs (m := (.zpx z)) (fun _ => Adds.none fun h => h) (Nat.le_of_ble_eq_true rfl) s)
  | cmpZpx z => exact readInstr_runs (m := (.zpx z)) cmpWith_adds (Nat.le_of_ble_eq_true rfl) s
  | decZpx z => exact rmwInstr_runs (m := (.zpx z)) (Nat.le_of_ble_eq_true rfl) s
  | smb5 z => exact rmwInstr_runs (m := (.zp z)) (Nat.le_of_ble_eq_true rfl) s
  | cld => exact plainInstr_runs (m := .imp) (Adds.none fun h => h.setP _) (Nat.le_of_ble_eq_true rfl) s
  | cmpAbsy a => exact readInstr_runs (m := (.absy a false)) cmpWith_adds (Nat.le_of_ble_eq_true rfl) s
  | phx => exact plainInstr_runs (m := .stk) (push_adds (fun t => t.x)) (Nat.le_of_ble_eq_true rfl) s
  | stp => exact plainInstr_runs (m := .imp) (idleThen_adds fun h => h.setStopped _) (Nat.le_of_ble_eq_true rfl) s
  | nopDC a => exact reservedStep_runs (readInstr_runs (m := (.abs a)) (fun _ => Adds.none fun h => h) (Nat.le_of_ble_eq_true rfl) s)
  | cmpAbsx a => exact readInstr_runs (m := (.absx a false)) cmpWith_adds (Nat.le_of_ble_eq_true rfl) s
  | decAbsx a => exact rmwInstr_runs (m := (.absx a true)) (Nat.le_of_ble_eq_true rfl) s
  | bbs5 z off => exact bitBranchInstr_runs (cond := fun m => m.getLsbD 5) s
  | cpxImm v => exact readInstr_runs (m := (.imm v)) cpxWith_adds (Nat.le_of_ble_eq_true rfl) s
  | sbcIzx z => exact readInstr_runs (m := (.izx z)) sbcWith_adds (Nat.le_of_ble_eq_true rfl) s
  | nopE2 v => exact reservedStep_runs (readInstr_runs (m := (.imm v)) (fun _ => Adds.none fun h => h) (Nat.le_of_ble_eq_true rfl) s)
  | nopE3 => exact reservedStep_runs (plainInstr_runs (m := .nop1) (Adds.none fun h => h) (Nat.le_of_ble_eq_true rfl) s)
  | cpxZp z => exact readInstr_runs (m := (.zp z)) cpxWith_adds (Nat.le_of_ble_eq_true rfl) s
  | sbcZp z => exact readInstr_runs (m := (.zp z)) sbcWith_adds (Nat.le_of_ble_eq_true rfl) s
  | incZp z => exact rmwInstr_runs (m := (.zp z)) (Nat.le_of_ble_eq_true rfl) s
  | smb6 z => exact rmwInstr_runs (m := (.zp z)) (Nat.le_of_ble_eq_true rfl) s
  | inx => exact plainInstr_runs (m := .imp) (Adds.none fun h => (h.setX _).setP _) (Nat.le_of_ble_eq_true rfl) s
  | sbcImm v => exact readInstr_runs (m := (.imm v)) sbcWith_adds (Nat.le_of_ble_eq_true rfl) s
  | nop => exact plainInstr_runs (m := .imp) (Adds.none fun h => h) (Nat.le_of_ble_eq_true rfl) s
  | nopEB => exact reservedStep_runs (plainInstr_runs (m := .nop1) (Adds.none fun h => h) (Nat.le_of_ble_eq_true rfl) s)
  | cpxAbs a => exact readInstr_runs (m := (.abs a)) cpxWith_adds (Nat.le_of_ble_eq_true rfl) s
  | sbcAbs a => exact readInstr_runs (m := (.abs a)) sbcWith_adds (Nat.le_of_ble_eq_true rfl) s
  | incAbs a => exact rmwInstr_runs (m := (.abs a)) (Nat.le_of_ble_eq_true rfl) s
  | bbs6 z off => exact bitBranchInstr_runs (cond := fun m => m.getLsbD 6) s
  | beq off => exact branchInstr_runs (cond := fun p => p.z) s
  | sbcIzy z => exact readInstr_runs (m := (.izy z false)) sbcWith_adds (Nat.le_of_ble_eq_true rfl) s
  | sbcIzp z => exact readInstr_runs (m := (.izp z)) sbcWith_adds (Nat.le_of_ble_eq_true rfl) s
  | nopF3 => exact reservedStep_runs (plainInstr_runs (m := .nop1) (Adds.none fun h => h) (Nat.le_of_ble_eq_true rfl) s)
  | nopF4 z => exact reservedStep_runs (readInstr_runs (m := (.zpx z)) (fun _ => Adds.none fun h => h) (Nat.le_of_ble_eq_true rfl) s)
  | sbcZpx z => exact readInstr_runs (m := (.zpx z)) sbcWith_adds (Nat.le_of_ble_eq_true rfl) s
  | incZpx z => exact rmwInstr_runs (m := (.zpx z)) (Nat.le_of_ble_eq_true rfl) s
  | smb7 z => exact rmwInstr_runs (m := (.zp z)) (Nat.le_of_ble_eq_true rfl) s
  | sed => exact plainInstr_runs (m := .imp) (Adds.none fun h => h.setP _) (Nat.le_of_ble_eq_true rfl) s
  | sbcAbsy a => exact readInstr_runs (m := (.absy a false)) sbcWith_adds (Nat.le_of_ble_eq_true rfl) s
  | plx => exact plainInstr_runs (m := .stk) (pullInto_adds loadX loadX_adds) (Nat.le_of_ble_eq_true rfl) s
  | nopFB => exact reservedStep_runs (plainInstr_runs (m := .nop1) (Adds.none fun h => h) (Nat.le_of_ble_eq_true rfl) s)
  | nopFC a => exact reservedStep_runs (readInstr_runs (m := (.abs a)) (fun _ => Adds.none fun h => h) (Nat.le_of_ble_eq_true rfl) s)
  | sbcAbsx a => exact readInstr_runs (m := (.absx a false)) sbcWith_adds (Nat.le_of_ble_eq_true rfl) s
  | incAbsx a => exact rmwInstr_runs (m := (.absx a true)) (Nat.le_of_ble_eq_true rfl) s
  | bbs7 z off => exact bitBranchInstr_runs (cond := fun m => m.getLsbD 7) s

/-! ### The steps that run no instruction -/

@[simp] theorem State.loadPc_bus (s : State) (v : Addr) : (s.loadPc v).bus = s.bus := by simp [State.loadPc]
@[simp] theorem State.loadPc_reserved (s : State) (v : Addr) : (s.loadPc v).reserved = s.reserved := by
  simp [State.loadPc]

@[simp] theorem State.loadPc_opcode5C (s : State) (v : Addr) : (s.loadPc v).opcode5C = s.opcode5C := by
  simp [State.loadPc]

theorem State.resetStep_bus (s : State) : s.resetStep.bus = s.bus := by simp [State.resetStep]
theorem State.resetStep_reserved (s : State) : s.resetStep.reserved = s.reserved := by simp [State.resetStep]
theorem State.resetStep_opcode5C (s : State) : s.resetStep.opcode5C = s.opcode5C := by simp [State.resetStep]

theorem State.waitStep_bus (s : State) : s.waitStep.bus = s.bus := by
  simp only [State.waitStep]
  split <;> simp

theorem State.waitStep_reserved (s : State) : s.waitStep.reserved = s.reserved := by
  simp only [State.waitStep]
  split <;> simp

theorem State.waitStep_opcode5C (s : State) : s.waitStep.opcode5C = s.opcode5C := by
  simp only [State.waitStep]
  split <;> simp

theorem State.interruptEntry_bus (s : State) :
    s.interruptEntry.bus = s.bus.pushFrame s.sp s.pc (s.p.toByte false) := by
  have h := congrArg Arch.bus (State.takeException_spec
    ((((s.beginStep (.interrupt 0xFFFE)).setPending false).setWaiting false).idle.idle) false).2.1
  simp only [State.arch] at h
  simp only [State.interruptEntry, State.setOutcome_bus, h]
  simp

theorem State.interruptEntry_reserved (s : State) : s.interruptEntry.reserved = s.reserved := by
  simp [State.interruptEntry, State.takeException]

theorem State.interruptEntry_opcode5C (s : State) : s.interruptEntry.opcode5C = s.opcode5C := by
  simp [State.interruptEntry, State.takeException]

/-- What a dispatch step does to the bus and the parameters: an instruction's writes, nothing, or the pushes of interrupt entry. -/
theorem State.dispatch_cases {s t : State} (h : s.dispatch = .next t) :
    (∃ o evs, Reaches (s.beginStep o) t evs) 
      ∨ (t.bus = s.bus ∧ t.reserved = s.reserved ∧ t.opcode5C = s.opcode5C)
      ∨ (t.bus = s.bus.pushFrame s.sp s.pc (s.p.toByte false) ∧ t.reserved = s.reserved ∧ t.opcode5C = s.opcode5C) := by
  unfold State.dispatch at h
  split at h
  · rw [Host.Outcome.next.injEq] at h
    subst h
    exact .inr (.inl ⟨s.resetStep_bus, s.resetStep_reserved, s.resetStep_opcode5C⟩)
  · rw [Host.Outcome.next.injEq] at h
    subst h
    exact .inr (.inl ⟨rfl, rfl, rfl⟩)
  · rw [Host.Outcome.next.injEq] at h
    subst h
    exact .inr (.inr ⟨s.interruptEntry_bus, s.interruptEntry_reserved, s.interruptEntry_opcode5C⟩)
  · rw [Host.Outcome.next.injEq] at h
    subst h
    exact .inr (.inl ⟨s.waitStep_bus, s.waitStep_reserved, s.waitStep_opcode5C⟩)
  · obtain ⟨op, m, rest, -, hr⟩ := exec_runs _ _ _ h
    exact .inl ⟨_, _, hr⟩

end Sys2Proof.Machine
end

