-- ==== Sys2Proof/Laws/Reset.lean ====
section
/-! SUPPORT. The state after reset is what the reset step makes of a machine as constructed (70_reset R500, R501). -/

namespace Sys2Proof.Machine

theorem reset_eq_resetStep : (State.powerOn blankCartridge).resetStep = State.reset := by decide

end Sys2Proof.Machine
end

