-- ==== Sys2Proof/Tests/Slice0.lean ====
section
/-! SUPPORT. Tests. Expected values are taken from the spec: the examples of the instruction rules and the vectors of
95_test_vectors, named in each docstring. Below them, for every statement with hypotheses, a theorem `witness_<what>` shows a
state and operands that meet them. -/

namespace Sys2Proof.Tests

open Sys2Proof Sys2Proof.Machine Sys2Proof.Claims

/-! ### Well-formedness refuses an offset outside its byte -/

theorem test_wellFormed_refuses_rel_128 : (Instr.bne 128).wellFormed = false := by decide
theorem test_wellFormed_refuses_rel_minus_129 : (Instr.bra (-129)).wellFormed = false := by decide
theorem test_wellFormed_refuses_zpr_128 : (Instr.bbr0 0x10 128).wellFormed = false := by decide
theorem test_wellFormed_refuses_zpr_minus_129 : (Instr.bbs7 0x10 (-129)).wellFormed = false := by decide

/-! ### Words written out from the encodings

One word for every constructor, row by row of the opcode map of 30_encoding R148, with the operand bytes of R141: the
address low byte first, the branch offset signed. -/

/-- Every pair of bytes and instruction decodes as listed, with no byte left. -/
def decodeAs (rows : List (List Byte × Instr)) : Bool :=
  rows.all fun (bytes, i) =>
    match decode bytes with
    | .ok (j, rest) => j == i && rest.isEmpty
    | .error _ => false

/-- Row 0 of the opcode map: opcodes 0x00 to 0x0F. -/
theorem test_decode_row_0 :
    decodeAs [
      ([0x00, 0x00], .brk 0x00), ([0x01, 0x42], .oraIzx 0x42), ([0x02, 0xFF], .nop02 0xFF), ([0x03], .nop03),
      ([0x04, 0x7F], .tsbZp 0x7F), ([0x05, 0x10], .oraZp 0x10), ([0x06, 0x00], .aslZp 0x00),
      ([0x07, 0x42], .rmb0 0x42), ([0x08], .php), ([0x09, 0x80], .oraImm 0x80), ([0x0A], .aslAcc), ([0x0B], .nop0B),
      ([0x0C, 0x00, 0x12], .tsbAbs 0x1200), ([0x0D, 0x42, 0x12], .oraAbs 0x1242),
      ([0x0E, 0xFF, 0x12], .aslAbs 0x12FF), ([0x0F, 0x80, 0xC3], .bbr0 0x80 (-61))] = true := by decide

/-- Row 1 of the opcode map: opcodes 0x10 to 0x1F. -/
theorem test_decode_row_1 :
    decodeAs [
      ([0x10, 0x7F], .bpl (127)), ([0x11, 0x10], .oraIzy 0x10), ([0x12, 0x00], .oraIzp 0x00), ([0x13], .nop13),
      ([0x14, 0xFF], .trbZp 0xFF), ([0x15, 0x80], .oraZpx 0x80), ([0x16, 0x7F], .aslZpx 0x7F),
      ([0x17, 0x10], .rmb1 0x10), ([0x18], .clc), ([0x19, 0x42, 0x12], .oraAbsy 0x1242), ([0x1A], .incAcc),
      ([0x1B], .nop1B), ([0x1C, 0x7F, 0xC3], .trbAbs 0xC37F), ([0x1D, 0x10, 0xC3], .oraAbsx 0xC310),
      ([0x1E, 0x00, 0x00], .aslAbsx 0x0000), ([0x1F, 0x42, 0x00], .bbr1 0x42 (0))] = true := by decide

/-- Row 2 of the opcode map: opcodes 0x20 to 0x2F. -/
theorem test_decode_row_2 :
    decodeAs [
      ([0x20, 0xFF, 0x00], .jsr 0x00FF), ([0x21, 0x80], .andIzx 0x80), ([0x22, 0x7F], .nop22 0x7F), ([0x23], .nop23),
      ([0x24, 0x00], .bitZp 0x00), ([0x25, 0x42], .andZp 0x42), ([0x26, 0xFF], .rolZp 0xFF),
      ([0x27, 0x80], .rmb2 0x80), ([0x28], .plp), ([0x29, 0x10], .andImm 0x10), ([0x2A], .rolAcc), ([0x2B], .nop2B),
      ([0x2C, 0xFF, 0x00], .bitAbs 0x00FF), ([0x2D, 0x80, 0xFF], .andAbs 0xFF80),
      ([0x2E, 0x7F, 0xFF], .rolAbs 0xFF7F), ([0x2F, 0x10, 0xFF], .bbr2 0x10 (-1))] = true := by decide

/-- Row 3 of the opcode map: opcodes 0x30 to 0x3F. -/
theorem test_decode_row_3 :
    decodeAs [
      ([0x30, 0x00], .bmi (0)), ([0x31, 0x42], .andIzy 0x42), ([0x32, 0xFF], .andIzp 0xFF), ([0x33], .nop33),
      ([0x34, 0x7F], .bitZpx 0x7F), ([0x35, 0x10], .andZpx 0x10), ([0x36, 0x00], .rolZpx 0x00),
      ([0x37, 0x42], .rmb3 0x42), ([0x38], .sec), ([0x39, 0x80, 0xFF], .andAbsy 0xFF80), ([0x3A], .decAcc),
      ([0x3B], .nop3B), ([0x3C, 0x00, 0x12], .bitAbsx 0x1200), ([0x3D, 0x42, 0x12], .andAbsx 0x1242),
      ([0x3E, 0xFF, 0x12], .rolAbsx 0x12FF), ([0x3F, 0x80, 0xC3], .bbr3 0x80 (-61))] = true := by decide

/-- Row 4 of the opcode map: opcodes 0x40 to 0x4F. -/
theorem test_decode_row_4 :
    decodeAs [
      ([0x40], .rti), ([0x41, 0x10], .eorIzx 0x10), ([0x42, 0x00], .nop42 0x00), ([0x43], .nop43),
      ([0x44, 0xFF], .nop44 0xFF), ([0x45, 0x80], .eorZp 0x80), ([0x46, 0x7F], .lsrZp 0x7F),
      ([0x47, 0x10], .rmb4 0x10), ([0x48], .pha), ([0x49, 0x42], .eorImm 0x42), ([0x4A], .lsrAcc), ([0x4B], .nop4B),
      ([0x4C, 0x7F, 0xC3], .jmpAbs 0xC37F), ([0x4D, 0x10, 0xC3], .eorAbs 0xC310),
      ([0x4E, 0x00, 0x00], .lsrAbs 0x0000), ([0x4F, 0x42, 0x00], .bbr4 0x42 (0))] = true := by decide

/-- Row 5 of the opcode map: opcodes 0x50 to 0x5F. -/
theorem test_decode_row_5 :
    decodeAs [
      ([0x50, 0xFF], .bvc (-1)), ([0x51, 0x80], .eorIzy 0x80), ([0x52, 0x7F], .eorIzp 0x7F), ([0x53], .nop53),
      ([0x54, 0x00], .nop54 0x00), ([0x55, 0x42], .eorZpx 0x42), ([0x56, 0xFF], .lsrZpx 0xFF),
      ([0x57, 0x80], .rmb5 0x80), ([0x58], .cli), ([0x59, 0x10, 0xC3], .eorAbsy 0xC310), ([0x5A], .phy),
      ([0x5B], .nop5B), ([0x5C, 0xFF, 0x00], .nop5C 0x00FF), ([0x5D, 0x80, 0xFF], .eorAbsx 0xFF80),
      ([0x5E, 0x7F, 0xFF], .lsrAbsx 0xFF7F), ([0x5F, 0x10, 0xFF], .bbr5 0x10 (-1))] = true := by decide

/-- Row 6 of the opcode map: opcodes 0x60 to 0x6F. -/
theorem test_decode_row_6 :
    decodeAs [
      ([0x60], .rts), ([0x61, 0x42], .adcIzx 0x42), ([0x62, 0xFF], .nop62 0xFF), ([0x63], .nop63),
      ([0x64, 0x7F], .stzZp 0x7F), ([0x65, 0x10], .adcZp 0x10), ([0x66, 0x00], .rorZp 0x00),
      ([0x67, 0x42], .rmb6 0x42), ([0x68], .pla), ([0x69, 0x80], .adcImm 0x80), ([0x6A], .rorAcc), ([0x6B], .nop6B),
      ([0x6C, 0x00, 0x12], .jmpInd 0x1200), ([0x6D, 0x42, 0x12], .adcAbs 0x1242),
      ([0x6E, 0xFF, 0x12], .rorAbs 0x12FF), ([0x6F, 0x80, 0xC3], .bbr6 0x80 (-61))] = true := by decide

/-- Row 7 of the opcode map: opcodes 0x70 to 0x7F. -/
theorem test_decode_row_7 :
    decodeAs [
      ([0x70, 0x7F], .bvs (127)), ([0x71, 0x10], .adcIzy 0x10), ([0x72, 0x00], .adcIzp 0x00), ([0x73], .nop73),
      ([0x74, 0xFF], .stzZpx 0xFF), ([0x75, 0x80], .adcZpx 0x80), ([0x76, 0x7F], .rorZpx 0x7F),
      ([0x77, 0x10], .rmb7 0x10), ([0x78], .sei), ([0x79, 0x42, 0x12], .adcAbsy 0x1242), ([0x7A], .ply),
      ([0x7B], .nop7B), ([0x7C, 0x7F, 0xC3], .jmpIax 0xC37F), ([0x7D, 0x10, 0xC3], .adcAbsx 0xC310),
      ([0x7E, 0x00, 0x00], .rorAbsx 0x0000), ([0x7F, 0x42, 0x00], .bbr7 0x42 (0))] = true := by decide

/-- Row 8 of the opcode map: opcodes 0x80 to 0x8F. -/
theorem test_decode_row_8 :
    decodeAs [
      ([0x80, 0xFF], .bra (-1)), ([0x81, 0x80], .staIzx 0x80), ([0x82, 0x7F], .nop82 0x7F), ([0x83], .nop83),
      ([0x84, 0x00], .styZp 0x00), ([0x85, 0x42], .staZp 0x42), ([0x86, 0xFF], .stxZp 0xFF),
      ([0x87, 0x80], .smb0 0x80), ([0x88], .dey), ([0x89, 0x10], .bitImm 0x10), ([0x8A], .txa), ([0x8B], .nop8B),
      ([0x8C, 0xFF, 0x00], .styAbs 0x00FF), ([0x8D, 0x80, 0xFF], .staAbs 0xFF80),
      ([0x8E, 0x7F, 0xFF], .stxAbs 0xFF7F), ([0x8F, 0x10, 0xFF], .bbs0 0x10 (-1))] = true := by decide

/-- Row 9 of the opcode map: opcodes 0x90 to 0x9F. -/
theorem test_decode_row_9 :
    decodeAs [
      ([0x90, 0x00], .bcc (0)), ([0x91, 0x42], .staIzy 0x42), ([0x92, 0xFF], .staIzp 0xFF), ([0x93], .nop93),
      ([0x94, 0x7F], .styZpx 0x7F), ([0x95, 0x10], .staZpx 0x10), ([0x96, 0x00], .stxZpy 0x00),
      ([0x97, 0x42], .smb1 0x42), ([0x98], .tya), ([0x99, 0x80, 0xFF], .staAbsy 0xFF80), ([0x9A], .txs),
      ([0x9B], .nop9B), ([0x9C, 0x00, 0x12], .stzAbs 0x1200), ([0x9D, 0x42, 0x12], .staAbsx 0x1242),
      ([0x9E, 0xFF, 0x12], .stzAbsx 0x12FF), ([0x9F, 0x80, 0xC3], .bbs1 0x80 (-61))] = true := by decide

/-- Row A of the opcode map: opcodes 0xA0 to 0xAF. -/
theorem test_decode_row_A :
    decodeAs [
      ([0xA0, 0x7F], .ldyImm 0x7F), ([0xA1, 0x10], .ldaIzx 0x10), ([0xA2, 0x00], .ldxImm 0x00), ([0xA3], .nopA3),
      ([0xA4, 0xFF], .ldyZp 0xFF), ([0xA5, 0x80], .ldaZp 0x80), ([0xA6, 0x7F], .ldxZp 0x7F),
      ([0xA7, 0x10], .smb2 0x10), ([0xA8], .tay), ([0xA9, 0x42], .ldaImm 0x42), ([0xAA], .tax), ([0xAB], .nopAB),
      ([0xAC, 0x7F, 0xC3], .ldyAbs 0xC37F), ([0xAD, 0x10, 0xC3], .ldaAbs 0xC310),
      ([0xAE, 0x00, 0x00], .ldxAbs 0x0000), ([0xAF, 0x42, 0x00], .bbs2 0x42 (0))] = true := by decide

/-- Row B of the opcode map: opcodes 0xB0 to 0xBF. -/
theorem test_decode_row_B :
    decodeAs [
      ([0xB0, 0xFF], .bcs (-1)), ([0xB1, 0x80], .ldaIzy 0x80), ([0xB2, 0x7F], .ldaIzp 0x7F), ([0xB3], .nopB3),
      ([0xB4, 0x00], .ldyZpx 0x00), ([0xB5, 0x42], .ldaZpx 0x42), ([0xB6, 0xFF], .ldxZpy 0xFF),
      ([0xB7, 0x80], .smb3 0x80), ([0xB8], .clv), ([0xB9, 0x10, 0xC3], .ldaAbsy 0xC310), ([0xBA], .tsx),
      ([0xBB], .nopBB), ([0xBC, 0xFF, 0x00], .ldyAbsx 0x00FF), ([0xBD, 0x80, 0xFF], .ldaAbsx 0xFF80),
      ([0xBE, 0x7F, 0xFF], .ldxAbsy 0xFF7F), ([0xBF, 0x10, 0xFF], .bbs3 0x10 (-1))] = true := by decide

/-- Row C of the opcode map: opcodes 0xC0 to 0xCF. -/
theorem test_decode_row_C :
    decodeAs [
      ([0xC0, 0x00], .cpyImm 0x00), ([0xC1, 0x42], .cmpIzx 0x42), ([0xC2, 0xFF], .nopC2 0xFF), ([0xC3], .nopC3),
      ([0xC4, 0x7F], .cpyZp 0x7F), ([0xC5, 0x10], .cmpZp 0x10), ([0xC6, 0x00], .decZp 0x00),
      ([0xC7, 0x42], .smb4 0x42), ([0xC8], .iny), ([0xC9, 0x80], .cmpImm 0x80), ([0xCA], .dex), ([0xCB], .wai),
      ([0xCC, 0x00, 0x12], .cpyAbs 0x1200), ([0xCD, 0x42, 0x12], .cmpAbs 0x1242),
      ([0xCE, 0xFF, 0x12], .decAbs 0x12FF), ([0xCF, 0x80, 0xC3], .bbs4 0x80 (-61))] = true := by decide

/-- Row D of the opcode map: opcodes 0xD0 to 0xDF. -/
theorem test_decode_row_D :
    decodeAs [
      ([0xD0, 0x7F], .bne (127)), ([0xD1, 0x10], .cmpIzy 0x10), ([0xD2, 0x00], .cmpIzp 0x00), ([0xD3], .nopD3),
      ([0xD4, 0xFF], .nopD4 0xFF), ([0xD5, 0x80], .cmpZpx 0x80), ([0xD6, 0x7F], .decZpx 0x7F),
      ([0xD7, 0x10], .smb5 0x10), ([0xD8], .cld), ([0xD9, 0x42, 0x12], .cmpAbsy 0x1242), ([0xDA], .phx),
      ([0xDB], .stp), ([0xDC, 0x7F, 0xC3], .nopDC 0xC37F), ([0xDD, 0x10, 0xC3], .cmpAbsx 0xC310),
      ([0xDE, 0x00, 0x00], .decAbsx 0x0000), ([0xDF, 0x42, 0x00], .bbs5 0x42 (0))] = true := by decide

/-- Row E of the opcode map: opcodes 0xE0 to 0xEF. -/
theorem test_decode_row_E :
    decodeAs [
      ([0xE0, 0xFF], .cpxImm 0xFF), ([0xE1, 0x80], .sbcIzx 0x80), ([0xE2, 0x7F], .nopE2 0x7F), ([0xE3], .nopE3),
      ([0xE4, 0x00], .cpxZp 0x00), ([0xE5, 0x42], .sbcZp 0x42), ([0xE6, 0xFF], .incZp 0xFF),
      ([0xE7, 0x80], .smb6 0x80), ([0xE8], .inx), ([0xE9, 0x10], .sbcImm 0x10), ([0xEA], .nop), ([0xEB], .nopEB),
      ([0xEC, 0xFF, 0x00], .cpxAbs 0x00FF), ([0xED, 0x80, 0xFF], .sbcAbs 0xFF80),
      ([0xEE, 0x7F, 0xFF], .incAbs 0xFF7F), ([0xEF, 0x10, 0xFF], .bbs6 0x10 (-1))] = true := by decide

/-- Row F of the opcode map: opcodes 0xF0 to 0xFF. -/
theorem test_decode_row_F :
    decodeAs [
      ([0xF0, 0x00], .beq (0)), ([0xF1, 0x42], .sbcIzy 0x42), ([0xF2, 0xFF], .sbcIzp 0xFF), ([0xF3], .nopF3),
      ([0xF4, 0x7F], .nopF4 0x7F), ([0xF5, 0x10], .sbcZpx 0x10), ([0xF6, 0x00], .incZpx 0x00),
      ([0xF7, 0x42], .smb7 0x42), ([0xF8], .sed), ([0xF9, 0x80, 0xFF], .sbcAbsy 0xFF80), ([0xFA], .plx),
      ([0xFB], .nopFB), ([0xFC, 0x00, 0x12], .nopFC 0x1200), ([0xFD, 0x42, 0x12], .sbcAbsx 0x1242),
      ([0xFE, 0xFF, 0x12], .incAbsx 0x12FF), ([0xFF, 0x80, 0xC3], .bbs7 0x80 (-61))] = true := by decide

/-- 30_encoding R154: too few bytes are refused by name. -/
theorem test_decode_refuses_missing_bytes :
    decode [] = .error .empty ∧ decode [0xAD, 0x01] = .error (.missingOperand 0xAD 3) := by decide

/-! ### Outcomes, compared -/

/-- What a refusal of a reserved opcode shows: the opcode, its address, and PC, the cycles and the events after it. -/
def refusalShows (r : Result) : List Nat :=
  match r with
  | .refused (.reservedOpcode op a u) => [op.toNat, a.toNat, u.pc.toNat, u.cycles, u.trace.length]
  | _ => []

/-! ### A machine for one-step tests: the conventions of 95_test_vectors -/

/-- The registers a vector starts from. -/
structure Start where
  a : Byte := 0x00
  x : Byte := 0x00
  y : Byte := 0x00
  sp : Byte := 0xFF
  p : Byte := 0x24
  pc : Addr := 0x0200
  reserved : ReservedOpcodes := .refuse
  opcode5C : Opcode5C := .fiveIdles

/-- A 32 KiB cartridge of zeros with the vectors 0x0200, 0x9000 and 0x9100. -/
def vectorCartridge : Cartridge := ⟨.k32, ⟨[(0x7FFB, 0x91), (0x7FFD, 0x02), (0x7FFF, 0x90)]⟩⟩

/-- The machine with those registers and some bytes in place. -/
def machine (r : Start) (cells : List (Addr × Byte)) : State :=
  let s := State.powerOn vectorCartridge
  { s with
    a := r.a
    x := r.x
    y := r.y
    sp := r.sp
    pc := r.pc
    reserved := r.reserved
    opcode5C := r.opcode5C
    p := Flags.ofByte r.p
    bus := cells.foldl (fun b c => b.placeByte c.1 c.2) s.bus }

/-- What one step from a state shows. -/
def shows (s : State) (view : State → List Nat) : Option (List Nat) :=
  match step s with
  | .next t => some (view t)
  | .fault _ => none
  | .refused _ => none

/-- What one step of a test machine shows. -/
def ran (r : Start) (cells : List (Addr × Byte)) (view : State → List Nat) : Option (List Nat) :=
  shows (machine r cells) view

/-! ### One step of each instruction -/

/-- 44_alu R306. -/
theorem test_adc_r306 : ran { a := 0x7F }
    [(0x0200, 0x69), (0x0201, 0x01)]
    (fun t => [t.a.toNat, (t.p.toByte false).toNat, t.trace.length]) = some [0x80, 0xE4, 2] := by decide

/-- 44_alu R306. -/
theorem test_adc_r306b : ran { a := 0x58, p := 0x2D }
    [(0x0010, 0x46), (0x0200, 0x65), (0x0201, 0x10)]
    (fun t => [t.a.toNat, (t.p.toByte false).toNat, t.trace.length]) = some [0x05, 0x6D, 4] := by decide

/-- 44_alu R307. -/
theorem test_sbc_r307 : ran { a := 0x80, p := 0x25 }
    [(0x0200, 0xE9), (0x0201, 0x01)]
    (fun t => [t.a.toNat, (t.p.toByte false).toNat, t.trace.length]) = some [0x7F, 0x65, 2] := by decide

/-- 44_alu R307. -/
theorem test_sbc_r307b : ran { a := 0x46, p := 0x2D }
    [(0x0200, 0xE9), (0x0201, 0x12)]
    (fun t => [t.a.toNat, (t.p.toByte false).toNat, t.trace.length]) = some [0x34, 0x2D, 3] := by decide

/-- 44_alu R308. -/
theorem test_and_r308 : ran { a := 0xF0, x := 0x03 }
    [(0x0001, 0x3C), (0x0200, 0x35), (0x0201, 0xFE)]
    (fun t => [t.a.toNat, (t.p.toByte false).toNat, t.trace.length]) = some [0x30, 0x24, 4] := by decide

/-- 44_alu R309. -/
theorem test_ora_r309 : ran { a := 0x01 }
    [(0x0200, 0x09), (0x0201, 0x80)]
    (fun t => [t.a.toNat, (t.p.toByte false).toNat, t.trace.length]) = some [0x81, 0xA4, 2] := by decide

/-- 44_alu R310. -/
theorem test_eor_r310 : ran { a := 0xAA }
    [(0x0020, 0x00), (0x0021, 0x11), (0x0200, 0x52), (0x0201, 0x20), (0x1100, 0xAA)]
    (fun t => [t.a.toNat, (t.p.toByte false).toNat, t.trace.length]) = some [0x00, 0x26, 5] := by decide

/-- 44_alu R311. -/
theorem test_cmp_r311 : ran { a := 0x40 }
    [(0x0200, 0xC9), (0x0201, 0x41)]
    (fun t => [t.a.toNat, (t.p.toByte false).toNat, t.trace.length]) = some [0x40, 0xA4, 2] := by decide

/-- 44_alu R311. -/
theorem test_cmp_r311b : ran { a := 0x40, y := 0x20 }
    [(0x0200, 0xD9), (0x0201, 0xF0), (0x0202, 0x10), (0x1110, 0x40)]
    (fun t => [t.a.toNat, (t.p.toByte false).toNat, t.trace.length]) = some [0x40, 0x27, 5] := by decide

/-- 44_alu R312. -/
theorem test_cpx_r312 : ran { x := 0x20 }
    [(0x0200, 0xE0), (0x0201, 0x10)]
    (fun t => [t.x.toNat, (t.p.toByte false).toNat, t.trace.length]) = some [0x20, 0x25, 2] := by decide

/-- 44_alu R313. -/
theorem test_cpy_r313 : ran { y := 0x7F }
    [(0x0030, 0x7F), (0x0200, 0xC4), (0x0201, 0x30)]
    (fun t => [t.y.toNat, (t.p.toByte false).toNat, t.trace.length]) = some [0x7F, 0x27, 3] := by decide

/-- 44_alu R314. -/
theorem test_bit_r314 : ran { a := 0x01 }
    [(0x0010, 0xC0), (0x0200, 0x24), (0x0201, 0x10)]
    (fun t => [t.a.toNat, (t.p.toByte false).toNat, t.trace.length]) = some [0x01, 0xE6, 3] := by decide

/-- 44_alu R314. -/
theorem test_bit_r314b : ran { a := 0x01, p := 0x64 }
    [(0x0200, 0x89), (0x0201, 0xC0)]
    (fun t => [t.a.toNat, (t.p.toByte false).toNat, t.trace.length]) = some [0x01, 0x66, 2] := by decide

/-- 45_rmw_bits R331. -/
theorem test_asl_r331 : ran { a := 0x81 }
    [(0x0200, 0x0A)]
    (fun t => [t.a.toNat, (t.p.toByte false).toNat, t.trace.length]) = some [0x02, 0x25, 2] := by decide

/-- 45_rmw_bits R331. -/
theorem test_asl_r331b : ran {}
    [(0x0010, 0x40), (0x0200, 0x06), (0x0201, 0x10)]
    (fun t => [(t.p.toByte false).toNat, (t.byteAt 0 0x0010).toNat, t.trace.length]) = some [0xA4, 0x80, 5] := by decide

/-- 45_rmw_bits R332. -/
theorem test_lsr_r332 : ran { a := 0x01 }
    [(0x0200, 0x4A)]
    (fun t => [t.a.toNat, (t.p.toByte false).toNat, t.trace.length]) = some [0x00, 0x27, 2] := by decide

/-- 45_rmw_bits R332. -/
theorem test_lsr_r332b : ran { x := 0x01 }
    [(0x0200, 0x5E), (0x0201, 0xFF), (0x0202, 0x10), (0x1100, 0x80)]
    (fun t => [(t.p.toByte false).toNat, (t.byteAt 0 0x1100).toNat, t.trace.length]) = some [0x24, 0x40, 7] := by decide

/-- 45_rmw_bits R333. -/
theorem test_rol_r333 : ran { a := 0x80, p := 0x25 }
    [(0x0200, 0x2A)]
    (fun t => [t.a.toNat, (t.p.toByte false).toNat, t.trace.length]) = some [0x01, 0x25, 2] := by decide

/-- 45_rmw_bits R334. -/
theorem test_ror_r334 : ran { x := 0x01, p := 0x25 }
    [(0x0010, 0x02), (0x0200, 0x76), (0x0201, 0x0F)]
    (fun t => [(t.p.toByte false).toNat, (t.byteAt 0 0x0010).toNat, t.trace.length]) = some [0xA4, 0x81, 6] := by decide

/-- 45_rmw_bits R335. -/
theorem test_inc_r335 : ran {}
    [(0x0020, 0xFF), (0x0200, 0xE6), (0x0201, 0x20)]
    (fun t => [(t.p.toByte false).toNat, (t.byteAt 0 0x0020).toNat, t.trace.length]) = some [0x26, 0x00, 5] := by decide

/-- 45_rmw_bits R336. -/
theorem test_dec_r336 : ran {}
    [(0x0200, 0x3A)]
    (fun t => [t.a.toNat, (t.p.toByte false).toNat, t.trace.length]) = some [0xFF, 0xA4, 2] := by decide

/-- 45_rmw_bits R336. -/
theorem test_dec_r336b : ran { x := 0x02 }
    [(0x0200, 0xDE), (0x0201, 0x00), (0x0202, 0x10), (0x1002, 0x01)]
    (fun t => [(t.p.toByte false).toNat, (t.byteAt 0 0x1002).toNat, t.trace.length]) = some [0x26, 0x00, 7] := by decide

/-- 45_rmw_bits R337. -/
theorem test_inx_r337 : ran { x := 0xFF }
    [(0x0200, 0xE8)]
    (fun t => [t.x.toNat, (t.p.toByte false).toNat, t.trace.length]) = some [0x00, 0x26, 2] := by decide

/-- 45_rmw_bits R338. -/
theorem test_iny_r338 : ran { y := 0xFF }
    [(0x0200, 0xC8)]
    (fun t => [t.y.toNat, (t.p.toByte false).toNat, t.trace.length]) = some [0x00, 0x26, 2] := by decide

/-- 45_rmw_bits R339. -/
theorem test_dex_r339 : ran {}
    [(0x0200, 0xCA)]
    (fun t => [t.x.toNat, (t.p.toByte false).toNat, t.trace.length]) = some [0xFF, 0xA4, 2] := by decide

/-- 45_rmw_bits R340. -/
theorem test_dey_r340 : ran {}
    [(0x0200, 0x88)]
    (fun t => [t.y.toNat, (t.p.toByte false).toNat, t.trace.length]) = some [0xFF, 0xA4, 2] := by decide

/-- 45_rmw_bits R341. -/
theorem test_tsb_r341 : ran { a := 0x0F }
    [(0x0010, 0xF0), (0x0200, 0x04), (0x0201, 0x10)]
    (fun t => [t.a.toNat, (t.p.toByte false).toNat, (t.byteAt 0 0x0010).toNat, t.trace.length]) = some [0x0F, 0x26, 0xFF, 5] := by decide

/-- 45_rmw_bits R342. -/
theorem test_trb_r342 : ran { a := 0x81 }
    [(0x0200, 0x1C), (0x0201, 0x00), (0x0202, 0x10), (0x1000, 0xFF)]
    (fun t => [t.a.toNat, (t.p.toByte false).toNat, (t.byteAt 0 0x1000).toNat, t.trace.length]) = some [0x81, 0x24, 0x7E, 6] := by decide

/-- 45_rmw_bits R344. -/
theorem test_rmb0_r344 : ran {}
    [(0x0040, 0xFF), (0x0200, 0x07), (0x0201, 0x40)]
    (fun t => [(t.p.toByte false).toNat, (t.byteAt 0 0x0040).toNat, t.trace.length]) = some [0x24, 0xFE, 5] := by decide

/-- 45_rmw_bits R347. -/
theorem test_rmb3_r347 : ran {}
    [(0x0043, 0xFF), (0x0200, 0x37), (0x0201, 0x43)]
    (fun t => [(t.p.toByte false).toNat, (t.byteAt 0 0x0043).toNat, t.trace.length]) = some [0x24, 0xF7, 5] := by decide

/-- 45_rmw_bits R351. -/
theorem test_rmb7_r351 : ran {}
    [(0x0047, 0xFF), (0x0200, 0x77), (0x0201, 0x47)]
    (fun t => [(t.p.toByte false).toNat, (t.byteAt 0 0x0047).toNat, t.trace.length]) = some [0x24, 0x7F, 5] := by decide

/-- 45_rmw_bits R353. -/
theorem test_smb0_r353 : ran {}
    [(0x0050, 0x00), (0x0200, 0x87), (0x0201, 0x50)]
    (fun t => [(t.p.toByte false).toNat, (t.byteAt 0 0x0050).toNat, t.trace.length]) = some [0x24, 0x01, 5] := by decide

/-- 45_rmw_bits R356. -/
theorem test_smb3_r356 : ran {}
    [(0x0053, 0x00), (0x0200, 0xB7), (0x0201, 0x53)]
    (fun t => [(t.p.toByte false).toNat, (t.byteAt 0 0x0053).toNat, t.trace.length]) = some [0x24, 0x08, 5] := by decide

/-- 45_rmw_bits R360. -/
theorem test_smb7_r360 : ran {}
    [(0x0057, 0x00), (0x0200, 0xF7), (0x0201, 0x57)]
    (fun t => [(t.p.toByte false).toNat, (t.byteAt 0 0x0057).toNat, t.trace.length]) = some [0x24, 0x80, 5] := by decide

/-- 46_transfer_stack_flags R381. -/
theorem test_tax_r381 : ran { a := 0x80 }
    [(0x0200, 0xAA)]
    (fun t => [t.x.toNat, (t.p.toByte false).toNat, t.trace.length]) = some [0x80, 0xA4, 2] := by decide

/-- 46_transfer_stack_flags R382. -/
theorem test_tay_r382 : ran { a := 0x80 }
    [(0x0200, 0xA8)]
    (fun t => [t.y.toNat, (t.p.toByte false).toNat, t.trace.length]) = some [0x80, 0xA4, 2] := by decide

/-- 46_transfer_stack_flags R383. -/
theorem test_txa_r383 : ran { x := 0x80 }
    [(0x0200, 0x8A)]
    (fun t => [t.a.toNat, (t.p.toByte false).toNat, t.trace.length]) = some [0x80, 0xA4, 2] := by decide

/-- 46_transfer_stack_flags R384. -/
theorem test_tya_r384 : ran { y := 0x80 }
    [(0x0200, 0x98)]
    (fun t => [t.a.toNat, (t.p.toByte false).toNat, t.trace.length]) = some [0x80, 0xA4, 2] := by decide

/-- 46_transfer_stack_flags R385. -/
theorem test_tsx_r385 : ran { sp := 0x80 }
    [(0x0200, 0xBA)]
    (fun t => [t.x.toNat, (t.p.toByte false).toNat, t.trace.length]) = some [0x80, 0xA4, 2] := by decide

/-- 46_transfer_stack_flags R386. -/
theorem test_txs_r386 : ran { x := 0x80 }
    [(0x0200, 0x9A)]
    (fun t => [t.sp.toNat, (t.p.toByte false).toNat, t.trace.length]) = some [0x80, 0x24, 2] := by decide

/-- 46_transfer_stack_flags R387. -/
theorem test_pha_r387 : ran { a := 0x3C }
    [(0x0200, 0x48)]
    (fun t => [t.sp.toNat, (t.p.toByte false).toNat, (t.byteAt 0 0x01FF).toNat, t.trace.length]) = some [0xFE, 0x24, 0x3C, 3] := by decide

/-- 46_transfer_stack_flags R388. -/
theorem test_php_r388 : ran { sp := 0x00, p := 0xA5 }
    [(0x0200, 0x08)]
    (fun t => [t.sp.toNat, (t.p.toByte false).toNat, (t.byteAt 0 0x0100).toNat, t.trace.length]) = some [0xFF, 0xA5, 0xB5, 3] := by decide

/-- 46_transfer_stack_flags R389. -/
theorem test_phx_r389 : ran { x := 0x11, sp := 0x80 }
    [(0x0200, 0xDA)]
    (fun t => [t.sp.toNat, (t.p.toByte false).toNat, (t.byteAt 0 0x0180).toNat, t.trace.length]) = some [0x7F, 0x24, 0x11, 3] := by decide

/-- 46_transfer_stack_flags R390. -/
theorem test_phy_r390 : ran { y := 0x22, sp := 0x80 }
    [(0x0200, 0x5A)]
    (fun t => [t.sp.toNat, (t.p.toByte false).toNat, (t.byteAt 0 0x0180).toNat, t.trace.length]) = some [0x7F, 0x24, 0x22, 3] := by decide

/-- 46_transfer_stack_flags R391. -/
theorem test_pla_r391 : ran { sp := 0xFE }
    [(0x01FF, 0x00), (0x0200, 0x68)]
    (fun t => [t.a.toNat, t.sp.toNat, (t.p.toByte false).toNat, t.trace.length]) = some [0x00, 0xFF, 0x26, 4] := by decide

/-- 46_transfer_stack_flags R392. -/
theorem test_plp_r392 : ran { sp := 0xFE }
    [(0x01FF, 0xCF), (0x0200, 0x28)]
    (fun t => [t.sp.toNat, (t.p.toByte false).toNat, t.trace.length]) = some [0xFF, 0xEF, 4] := by decide

/-- 46_transfer_stack_flags R393. -/
theorem test_plx_r393 : ran { sp := 0xFE }
    [(0x01FF, 0x00), (0x0200, 0xFA)]
    (fun t => [t.x.toNat, t.sp.toNat, (t.p.toByte false).toNat, t.trace.length]) = some [0x00, 0xFF, 0x26, 4] := by decide

/-- 46_transfer_stack_flags R394. -/
theorem test_ply_r394 : ran { sp := 0xFE }
    [(0x01FF, 0x00), (0x0200, 0x7A)]
    (fun t => [t.y.toNat, t.sp.toNat, (t.p.toByte false).toNat, t.trace.length]) = some [0x00, 0xFF, 0x26, 4] := by decide

/-- 46_transfer_stack_flags R395. -/
theorem test_clc_r395 : ran { p := 0x25 }
    [(0x0200, 0x18)]
    (fun t => [(t.p.toByte false).toNat, t.trace.length]) = some [0x24, 2] := by decide

/-- 46_transfer_stack_flags R396. -/
theorem test_sec_r396 : ran {}
    [(0x0200, 0x38)]
    (fun t => [(t.p.toByte false).toNat, t.trace.length]) = some [0x25, 2] := by decide

/-- 46_transfer_stack_flags R397. -/
theorem test_cli_r397 : ran {}
    [(0x0200, 0x58)]
    (fun t => [(t.p.toByte false).toNat, t.trace.length]) = some [0x20, 2] := by decide

/-- 46_transfer_stack_flags R398. -/
theorem test_sei_r398 : ran { p := 0x20 }
    [(0x0200, 0x78)]
    (fun t => [(t.p.toByte false).toNat, t.trace.length]) = some [0x24, 2] := by decide

/-- 46_transfer_stack_flags R399. -/
theorem test_cld_r399 : ran { p := 0x2C }
    [(0x0200, 0xD8)]
    (fun t => [(t.p.toByte false).toNat, t.trace.length]) = some [0x24, 2] := by decide

/-- 46_transfer_stack_flags R400. -/
theorem test_sed_r400 : ran {}
    [(0x0200, 0xF8)]
    (fun t => [(t.p.toByte false).toNat, t.trace.length]) = some [0x2C, 2] := by decide

/-- 46_transfer_stack_flags R401. -/
theorem test_clv_r401 : ran { p := 0x64 }
    [(0x0200, 0xB8)]
    (fun t => [(t.p.toByte false).toNat, t.trace.length]) = some [0x24, 2] := by decide

/-- 47_control_system R420. -/
theorem test_jmp_r420 : ran {}
    [(0x0200, 0x4C), (0x0201, 0x34), (0x0202, 0x12)]
    (fun t => [t.pc.toNat, (t.p.toByte false).toNat, t.trace.length]) = some [0x1234, 0x24, 3] := by decide

/-- 47_control_system R420. -/
theorem test_jmp_r420b : ran {}
    [(0x0200, 0x6C), (0x0201, 0xFF), (0x0202, 0x10), (0x10FF, 0x00), (0x1100, 0x04)]
    (fun t => [t.pc.toNat, (t.p.toByte false).toNat, t.trace.length]) = some [0x0400, 0x24, 6] := by decide

/-- 47_control_system R421. -/
theorem test_jsr_r421 : ran {}
    [(0x0200, 0x20), (0x0201, 0x00), (0x0202, 0x03)]
    (fun t => [t.pc.toNat, t.sp.toNat, (t.p.toByte false).toNat, (t.byteAt 0 0x01FF).toNat, (t.byteAt 0 0x01FE).toNat, t.trace.length]) = some [0x0300, 0xFD, 0x24, 0x02, 0x02, 6] := by decide

/-- 47_control_system R422. -/
theorem test_rts_r422 : ran { sp := 0xFD, pc := 0x0300 }
    [(0x01FE, 0x02), (0x01FF, 0x02), (0x0300, 0x60)]
    (fun t => [t.pc.toNat, t.sp.toNat, (t.p.toByte false).toNat, t.trace.length]) = some [0x0203, 0xFF, 0x24, 6] := by decide

/-- 47_control_system R423. -/
theorem test_rti_r423 : ran { sp := 0xFC, pc := 0x0300 }
    [(0x01FD, 0x03), (0x01FE, 0x03), (0x01FF, 0x02), (0x0300, 0x40)]
    (fun t => [t.pc.toNat, t.sp.toNat, (t.p.toByte false).toNat, t.trace.length]) = some [0x0203, 0xFF, 0x23, 6] := by decide

/-- 47_control_system R424. -/
theorem test_brk_r424 : ran { p := 0x28 }
    [(0x0200, 0x00), (0x0201, 0xEE)]
    (fun t => [t.pc.toNat, t.sp.toNat, (t.p.toByte false).toNat, t.trace.length]) = some [0x9000, 0xFC, 0x24, 7] := by decide

/-- 47_control_system R425. -/
theorem test_wai_r425 : ran {}
    [(0x0200, 0xCB)]
    (fun t => [t.pc.toNat, (t.p.toByte false).toNat, bitNat t.waiting, t.trace.length]) = some [0x0201, 0x24, 1, 3] := by decide

/-- 47_control_system R426. -/
theorem test_stp_r426 : ran {}
    [(0x0200, 0xDB)]
    (fun t => [t.pc.toNat, (t.p.toByte false).toNat, bitNat t.stopped, t.trace.length]) = some [0x0201, 0x24, 1, 3] := by decide

/-- 47_control_system R427. -/
theorem test_nop_r427 : ran {}
    [(0x0200, 0xEA)]
    (fun t => [t.pc.toNat, (t.p.toByte false).toNat, t.trace.length]) = some [0x0201, 0x24, 2] := by decide

/-- 47_control_system R428. -/
theorem test_reserved_r428 : ran { reserved := .nop }
    [(0x0200, 0x02), (0x0201, 0x55)]
    (fun t => [t.pc.toNat, (t.p.toByte false).toNat, t.trace.length]) = some [0x0202, 0x24, 2] := by decide

/-- 47_control_system R429. -/
theorem test_reserved_r429 : ran { reserved := .nop }
    [(0x0200, 0x03)]
    (fun t => [t.pc.toNat, (t.p.toByte false).toNat, t.trace.length]) = some [0x0201, 0x24, 1] := by decide

/-- 47_control_system R430. -/
theorem test_reserved_r430 : ran { reserved := .nop }
    [(0x0200, 0x44), (0x0201, 0x10)]
    (fun t => [t.pc.toNat, (t.p.toByte false).toNat, t.trace.length]) = some [0x0202, 0x24, 3] := by decide

/-- 47_control_system R431. -/
theorem test_reserved_r431 : ran { x := 0x01, reserved := .nop }
    [(0x0200, 0x54), (0x0201, 0x10)]
    (fun t => [t.pc.toNat, (t.p.toByte false).toNat, t.trace.length]) = some [0x0202, 0x24, 4] := by decide

/-- 47_control_system R432. -/
theorem test_reserved_r432 : ran { reserved := .nop }
    [(0x0200, 0xDC), (0x0201, 0x00), (0x0202, 0x10)]
    (fun t => [t.pc.toNat, (t.p.toByte false).toNat, t.trace.length]) = some [0x0203, 0x24, 4] := by decide

/-- 47_control_system R433: no read of the unmapped 0x2100, so no report. -/
theorem test_reserved_r433 : ran { reserved := .nop }
    [(0x0200, 0x5C), (0x0201, 0x00), (0x0202, 0x21)]
    (fun t => [t.pc.toNat, (t.p.toByte false).toNat, t.trace.length, t.reports.length]) = some [0x0203, 0x24, 8, 0] := by
  decide

/-- 41_accessors R206, 20_memory R91: one read of the unmapped 0x2100, reported, in the same eight cycles (70_reset R520). -/
theorem test_reserved_r206 : ran { reserved := .nop, opcode5C := .discardedRead }
    [(0x0200, 0x5C), (0x0201, 0x00), (0x0202, 0x21)]
    (fun t => [t.pc.toNat, (t.p.toByte false).toNat, t.trace.length, t.reports.length]) = some [0x0203, 0x24, 8, 1] := by
  decide

/-- 95 V1. -/
theorem test_lda_v1 : ran { x := 0x02 }
    [(0x0001, 0x5A), (0x0101, 0xA5), (0x0200, 0xB5), (0x0201, 0xFF)]
    (fun t => [t.a.toNat, (t.p.toByte false).toNat, t.trace.length]) = some [0x5A, 0x24, 4] := by decide

/-- 95 V3. -/
theorem test_lda_v3 : ran { x := 0x01 }
    [(0x0200, 0xBD), (0x0201, 0xFF), (0x0202, 0x12), (0x1300, 0x33)]
    (fun t => [t.a.toNat, (t.p.toByte false).toNat, t.trace.length]) = some [0x33, 0x24, 5] := by decide

/-- 95 V5. -/
theorem test_sta_v5 : ran { a := 0x77, x := 0x01 }
    [(0x0200, 0x9D), (0x0201, 0x00), (0x0202, 0x12)]
    (fun t => [t.pc.toNat, (t.byteAt 0 0x1201).toNat, t.trace.length]) = some [0x0203, 0x77, 5] := by decide

/-- 95 V8. -/
theorem test_bne_v8 : ran { p := 0x26 }
    [(0x0200, 0xD0), (0x0201, 0x10)]
    (fun t => [t.pc.toNat, t.trace.length]) = some [0x0202, 2] := by decide

/-- 95 V10. -/
theorem test_bne_v10 : ran { pc := 0x02FD }
    [(0x02FD, 0xD0), (0x02FE, 0x02)]
    (fun t => [t.pc.toNat, t.trace.length]) = some [0x0301, 4] := by decide

/-- 95 V20. -/
theorem test_lda_v20 : ran {}
    [(0x0200, 0xA9), (0x0201, 0x80)]
    (fun t => [t.a.toNat, (t.p.toByte false).toNat, t.trace.length]) = some [0x80, 0xA4, 2] := by decide

/-- 95 V23. -/
theorem test_lda_v23 : ran { y := 0x02 }
    [(0x0001, 0x11), (0x0200, 0xB9), (0x0201, 0xFF), (0x0202, 0xFF)]
    (fun t => [t.a.toNat, (t.p.toByte false).toNat, t.trace.length]) = some [0x11, 0x24, 5] := by decide

/-- 95 V24. -/
theorem test_lda_v24 : ran { x := 0x01 }
    [(0x0000, 0x12), (0x00FF, 0x34), (0x0200, 0xA1), (0x0201, 0xFE), (0x1234, 0x99)]
    (fun t => [t.a.toNat, (t.p.toByte false).toNat, t.trace.length]) = some [0x99, 0xA4, 6] := by decide

/-- 95 V26. -/
theorem test_lda_v26 : ran { y := 0x10 }
    [(0x0020, 0xF8), (0x0021, 0x30), (0x0200, 0xB1), (0x0201, 0x20), (0x3108, 0x67)]
    (fun t => [t.a.toNat, (t.p.toByte false).toNat, t.trace.length]) = some [0x67, 0x24, 6] := by decide

/-- 95 V27. -/
theorem test_sta_v27 : ran { a := 0xAB, y := 0x01 }
    [(0x0020, 0x00), (0x0021, 0x30), (0x0200, 0x91), (0x0201, 0x20)]
    (fun t => [t.pc.toNat, (t.byteAt 0 0x3001).toNat, t.trace.length]) = some [0x0202, 0xAB, 6] := by decide

/-- 95 V28. -/
theorem test_sta_v28 : ran { a := 0x01 }
    [(0x0000, 0x30), (0x00FF, 0x00), (0x0200, 0x92), (0x0201, 0xFF)]
    (fun t => [t.pc.toNat, (t.byteAt 0 0x3000).toNat, t.trace.length]) = some [0x0202, 0x01, 5] := by decide

/-- 95 V70. -/
theorem test_bra_v70 : ran { pc := 0x0300 }
    [(0x0300, 0x80), (0x0301, 0x80)]
    (fun t => [t.pc.toNat, t.trace.length]) = some [0x0282, 4] := by decide

/-- 95 V73. -/
theorem test_bbr0_v73 : ran { pc := 0x0300 }
    [(0x0010, 0x01), (0x0300, 0x0F), (0x0301, 0x10), (0x0302, 0x02)]
    (fun t => [t.pc.toNat, t.trace.length]) = some [0x0303, 5] := by decide

/-- 95 V75. -/
theorem test_bbr2_v75 : ran { pc := 0x03F0 }
    [(0x0012, 0x00), (0x03F0, 0x2F), (0x03F1, 0x12), (0x03F2, 0x20)]
    (fun t => [t.pc.toNat, t.trace.length]) = some [0x0413, 7] := by decide

/-- 95 V81. -/
theorem test_ldy_v81 : ran { x := 0xF5 }
    [(0x0005, 0xFE), (0x0200, 0xB4), (0x0201, 0x10)]
    (fun t => [t.y.toNat, (t.p.toByte false).toNat, t.trace.length]) = some [0xFE, 0xA4, 4] := by decide

/-- 95 V82. -/
theorem test_ldx_v82 : ran { y := 0x01 }
    [(0x0200, 0xBE), (0x0201, 0xFF), (0x0202, 0x12), (0x1300, 0x01)]
    (fun t => [t.x.toNat, (t.p.toByte false).toNat, t.trace.length]) = some [0x01, 0x24, 5] := by decide

/-- 95 V83. -/
theorem test_stx_v83 : ran { x := 0x80, y := 0xF0, p := 0x26 }
    [(0x0200, 0x96), (0x0201, 0x10)]
    (fun t => [t.pc.toNat, (t.byteAt 0 0x0000).toNat, t.trace.length]) = some [0x0202, 0x80, 4] := by decide

/-- 95 V84. -/
theorem test_sty_v84 : ran { y := 0x3C }
    [(0x0200, 0x8C), (0x0201, 0x34), (0x0202, 0x12)]
    (fun t => [t.pc.toNat, (t.byteAt 0 0x1234).toNat, t.trace.length]) = some [0x0203, 0x3C, 4] := by decide

/-- 95 V85. -/
theorem test_stz_v85 : ran { x := 0x01 }
    [(0x0200, 0x9E), (0x0201, 0xFF), (0x0202, 0x10), (0x1100, 0xEE)]
    (fun t => [t.pc.toNat, (t.byteAt 0 0x1100).toNat, t.trace.length]) = some [0x0203, 0x00, 5] := by decide

/-! ### Steps that run no instruction, and the bus -/

/-- The levels of the lines, for a test. -/
def lineLevels (irq nmi : Bool) : Lines := { irq := irq, nmi := nmi, pad1 := 0x00, pad2 := 0x00 }

/-- 95 V180, its entry: PC 0x0201 and P 0x28 pushed, I set, D cleared, PC from 0xFFFE. -/
theorem test_interrupt_entry_v180 : shows { machine { pc := 0x0201, p := 0x28 } [] with pending := true }
    (fun t => [t.pc.toNat, t.sp.toNat, (t.p.toByte false).toNat, (t.byteAt 0 0x01FF).toNat, (t.byteAt 0 0x01FE).toNat,
      (t.byteAt 0 0x01FD).toNat, t.trace.length]) = some [0x9000, 0xFC, 0x24, 0x02, 0x01, 0x28, 7] := by decide

/-- 95 V183, its entry: an NMI edge at event 3 takes the NMI vector and is used up. -/
theorem test_interrupt_entry_hijacked_v183 :
    shows { machine { pc := 0x0201, p := 0x20 } [] with
        pending := true, inputs := [lineLevels true false, lineLevels true false, lineLevels true true] }
      (fun t => [t.pc.toNat, bitNat t.nmiEdge]) = some [0x9100, 0] := by decide

/-- 95 V184, its entry: an NMI edge at event 5 is too late and stays latched. -/
theorem test_interrupt_entry_late_nmi_v184 :
    shows { machine { pc := 0x0201, p := 0x20 } [] with
        pending := true
        inputs := [lineLevels true false, lineLevels true false, lineLevels true false, lineLevels true false,
          lineLevels true true] }
      (fun t => [t.pc.toNat, bitNat t.nmiEdge]) = some [0x9000, 1] := by decide

/-- 95 V11: the early sample of a branch taken across a page sees an IRQ that rises at event 3. -/
theorem test_branch_early_sample_v11 :
    shows { machine { pc := 0x02FD, p := 0x20 } [(0x02FD, 0xD0), (0x02FE, 0x02)] with
        inputs := [lineLevels false false, lineLevels false false, lineLevels true false] }
      (fun t => [bitNat t.pending, t.pc.toNat]) = some [1, 0x0301] := by decide

/-- 95 V12: one that rises at event 4 is too late. -/
theorem test_branch_late_irq_v12 :
    shows { machine { pc := 0x02FD, p := 0x20 } [(0x02FD, 0xD0), (0x02FE, 0x02)] with
        inputs := [lineLevels false false, lineLevels false false, lineLevels false false, lineLevels true false] }
      (fun t => [bitNat t.pending]) = some [0] := by decide

/-- 95 V166: a wait step with I = 1 and IRQ asserted ends the wait and takes nothing. -/
theorem test_wait_step_v166 :
    shows { machine { pc := 0x0201 } [] with waiting := true, inputs := [lineLevels true false] }
      (fun t => [bitNat t.waiting, bitNat t.pending, t.trace.length]) = some [0, 0, 1] := by decide

/-- 95 V167: a halted step makes no event. -/
theorem test_halted_step_v167 : shows { machine { pc := 0x0201 } [] with stopped := true }
    (fun t => [t.pc.toNat, bitNat t.stopped, t.trace.length]) = some [0x0201, 1, 0] := by decide

/-- 95 V190: reset keeps A and S, sets I, clears D and the latches, and takes seven cycles. -/
theorem test_reset_step_v190 :
    shows { machine { a := 0x11, sp := 0x42, p := 0x28 } [(0xFFFC, 0x23), (0xFFFD, 0xC1)] with
        pending := true, waiting := true, resetRequest := true }
      (fun t => [t.a.toNat, t.sp.toNat, t.pc.toNat, (t.p.toByte false).toNat, bitNat t.pending, bitNat t.waiting,
        t.trace.length]) = some [0x11, 0x42, 0xC123, 0x24, 0, 0, 7] := by decide

/-- 95 V142: INC on the output register clocks the bank shift register once. -/
theorem test_inc_output_register_v142 :
    shows (let s := machine {} [(0x0200, 0xEE), (0x0201, 0x01), (0x0202, 0x28)]
        { s with bus := { s.bus with sr := 0x01 } })
      (fun t => [t.bus.sr.toNat, (t.bus.via.get 1).toNat]) = some [0x02, 0x01] := by decide

/-- 95 V143: a read-modify-write in VRAM mode sets the dirty flag of the bank and the quadrant. -/
theorem test_inc_vram_v143 :
    shows (let s := machine {} [(0x0200, 0xEE), (0x0201, 0x00), (0x0202, 0x40), (0x2005, 0x01), (0x2007, 0x20)]
        { s with bus := { s.bus with quadrant := 1 } })
      (fun t => [(t.bus.peek (.vram 0x10080)).toNat, bitNat (t.bus.dirty.get 5)]) = some [0x01, 1] := by decide

/-- 95 V86, V87: a store to the cartridge and a read of an unmapped address are reported. -/
theorem test_reports_v86_v87 :
    (match step (machine { a := 0x12 } [(0x0200, 0x8D), (0x0201, 0x00), (0x0202, 0x80)]) with
      | .next t => t.reports
      | _ => []) = [.readOnlyWrite 0x8000 0x12]
    ∧ (match step (machine {} [(0x0200, 0xAD), (0x0201, 0x00), (0x0202, 0x21)]) with
      | .next t => t.reports
      | _ => []) = [.unmappedRead 0x2100] := by decide

/-- 95 V168, 70_reset R520: a reserved opcode under RESERVED_OPCODES = Refuse makes its opcode event only. -/
theorem test_reserved_refused_v168 :
    refusalShows (step (machine {} [(0x0200, 0x02), (0x0201, 0x55)])) = [0x02, 0x0200, 0x0201, 1, 1] := by decide

/-- 92_eei D35: an agent clears a dirty flag. -/
theorem test_agent_clears_dirty :
    shows (let s := machine {} [(0x0200, 0xEA)]
        { s with bus := { s.bus with dirty := s.bus.dirty.set 5 true }, agents := [[.clearDirty 5]] })
      (fun t => [bitNat (t.bus.dirty.get 5)]) = some [0] := by decide

/-- 20_memory R100: an agent's write between steps is seen by the next step's fetch. -/
theorem test_agent_acts_before_step :
    shows { machine { pc := 0x3000 } [(0x3000, 0xEA)] with agents := [[.acpWrite 0x000 0xE8]] }
      (fun t => [t.x.toNat, t.agents.length]) = some [1, 0] := by decide

/-- 20_memory R93: a payload of another length is fatal. -/
theorem test_construct_refuses_length :
    State.construct [0x00] = .fault (.cartSize 1) := by rfl

/-! ### Witnesses for the hypotheses of the statements -/

/-- Whether a step goes on. -/
def goesOn (r : Result) : Bool :=
  match r with
  | .next _ => true
  | .fault _ => false
  | .refused _ => false

theorem exists_next_of_goesOn {r : Result} (h : goesOn r = true) : ∃ t, r = .next t := by
  cases r with
  | next t => exact ⟨t, rfl⟩
  | fault _ => cases h
  | refused _ => cases h

theorem witness_DecodeInvertsEncode :
    (Instr.bne (-128)).wellFormed = true ∧ (Instr.bbs7 0xFF 127).wellFormed = true ∧ (Instr.jsr 0xFFFF).wellFormed = true := by
  decide

/-- `LDA #$42` at 0x0200. -/
def ldaMachine : State := machine {} [(0x0200, 0xA9), (0x0201, 0x42)]

theorem witness_StepRunsDecodedInstr :
    let u := ldaMachine.betweenSteps
    ldaMachine.agents = [] ∧ u.resetRequest = false ∧ u.stopped = false ∧ u.pending = false ∧ u.waiting = false
      ∧ decode [u.byteAt 1 u.pc, u.byteAt 2 (u.pc + 1), u.byteAt (thirdByteEvent (u.byteAt 1 u.pc)) (u.pc + 2)]
        = .ok (.ldaImm 0x42, [0x00]) :=
  ⟨rfl, rfl, rfl, rfl, rfl, (congrArg decode (by decide : _ = [(0xA9 : Byte), 0x42, 0x00])).trans rfl⟩

/-- `BBR0 $10, +2` in audio RAM, whose third byte an agent writes just before the step. -/
def bbrMachine : State :=
  { machine { pc := 0x3000 } [(0x3000, 0x0F), (0x3001, 0x10)] with agents := [[.acpWrite 0x002 0x02]] }

theorem witness_StepRunsDecodedInstr_third_byte :
    let u := bbrMachine.betweenSteps
    u.resetRequest = false ∧ u.stopped = false ∧ u.pending = false ∧ u.waiting = false
      ∧ decode [u.byteAt 1 u.pc, u.byteAt 2 (u.pc + 1), u.byteAt (thirdByteEvent (u.byteAt 1 u.pc)) (u.pc + 2)]
        = .ok (.bbr0 0x10 2, []) :=
  ⟨rfl, rfl, rfl, rfl, (congrArg decode (by decide : _ = [(0x0F : Byte), 0x10, 0x02])).trans rfl⟩

/-- One state for each of the four cases. -/
def resetMachine : State := { ldaMachine with resetRequest := true, stopped := true }
def stoppedMachine : State := { ldaMachine with stopped := true, pending := true }
def pendingMachine : State := { ldaMachine with pending := true, waiting := true }
def waitingMachine : State := { ldaMachine with waiting := true }

theorem witness_StepTestsRunStateInOrder :
    resetMachine.betweenSteps.resetRequest = true
      ∧ (stoppedMachine.betweenSteps.resetRequest = false ∧ stoppedMachine.betweenSteps.stopped = true)
      ∧ (pendingMachine.betweenSteps.resetRequest = false ∧ pendingMachine.betweenSteps.stopped = false
        ∧ pendingMachine.betweenSteps.pending = true)
      ∧ (waitingMachine.betweenSteps.resetRequest = false ∧ waitingMachine.betweenSteps.stopped = false
        ∧ waitingMachine.betweenSteps.pending = false ∧ waitingMachine.betweenSteps.waiting = true) := by decide

theorem exists_refused_of_shows {r : Result} (h : refusalShows r ≠ []) : ∃ q, r = .refused q := by
  cases r with
  | refused q => exact ⟨q, rfl⟩
  | next _ => exact absurd rfl h
  | fault _ => exact absurd rfl h

/-- 0x5C at 0x0200, under the default RESERVED_OPCODES = Refuse. -/
def refusingMachine : State := machine {} [(0x0200, 0x5C)]

theorem witness_StepRefusesOnlyReserved : ∃ r, step refusingMachine = .refused r :=
  exists_refused_of_shows (by decide)

theorem witness_CycleTable_refused : ∃ r, exec (.nop5C 0x1000) State.reset = .refused r :=
  exists_refused_of_shows (by decide)

theorem witness_PlacedInstructionRunsNext :
    decodeTableWord 16 0x42A9 = some (.ldaImm 0x42) ∧ decodeTableWord 8 0x20 = some (.jsr 0x0000) := by decide

theorem witness_StepKeepsMemoriesWellFormed : State.reset.wf = true ∧ ∃ t, step State.reset = .next t :=
  ⟨by decide, exists_next_of_goesOn (by decide)⟩

theorem witness_EveryEventIsClocked : ∃ t, exec (.incAbsx 0x10FF) (machine { x := 0x01 } []) = .next t :=
  exists_next_of_goesOn (by decide)

theorem witness_CycleTable : ∃ t, exec (.adcAbsx 0x12FF) (machine { x := 0x01, p := 0x2C } []) = .next t :=
  exists_next_of_goesOn (by decide)

theorem witness_StepKeepsCartridgeAndParameters : ∃ t, step { ldaMachine with pending := true } = .next t :=
  exists_next_of_goesOn (by decide)

theorem witness_OnlyAgentsClearDirty :
    let s := { ldaMachine with bus := { ldaMachine.bus with dirty := ldaMachine.bus.dirty.set 31 true } }
    s.agents = [] ∧ (∃ t, step s = .next t) ∧ s.bus.dirty.get 31 = true :=
  ⟨by decide, exists_next_of_goesOn (by decide), by decide⟩

/-- An agent clears flag 5; flag 31 was set and stays. -/
theorem witness_OnlyAgentsClearDirty_agents :
    ({ ldaMachine with
        bus := { ldaMachine.bus with dirty := (ldaMachine.bus.dirty.set 31 true).set 5 true }
        agents := [[.clearDirty 5]] } : State).betweenSteps.bus.dirty.get 31 = true := by decide

theorem witness_HaltedIsFixedPoint :
    let s := { ldaMachine with stopped := true, pending := true }
    s.agents = [] ∧ s.resetRequest = false ∧ s.stopped = true := by decide

/-- The first and the last address of each region. -/
theorem witness_ReadsFollowAddressMap :
    State.reset.bus.map = defaultBusMap ∧ (0x1FFF : Addr).toNat ≤ 0x1FFF
      ∧ (0x2000 ≤ (0x2000 : Addr).toNat ∧ (0x2007 : Addr).toNat ≤ 0x2007)
      ∧ (0x2800 : Addr).toNat = 0x2800 + (0 : Fin 16).val ∧ (0x280F : Addr).toNat = 0x2800 + (15 : Fin 16).val
      ∧ (0x3000 ≤ (0x3000 : Addr).toNat ∧ (0x3FFF : Addr).toNat ≤ 0x3FFF)
      ∧ (0x200A ≤ (0x200A : Addr).toNat ∧ (0x27FF : Addr).toNat ≤ 0x27FF)
      ∧ (0x2810 ≤ (0x2810 : Addr).toNat ∧ (0x2FFF : Addr).toNat ≤ 0x2FFF) := by decide

theorem witness_WritesFollowAddressMap :
    State.reset.bus.map = defaultBusMap ∧ (0x1FFF : Addr).toNat ≤ 0x1FFF
      ∧ (0x2000 : Addr).toNat = 0x2000 + (0 : Fin 10).val ∧ (0x2009 : Addr).toNat = 0x2000 + (9 : Fin 10).val
      ∧ ((0x280F : Addr).toNat = 0x2800 + (15 : Fin 16).val ∧ (15 : Fin 16) ≠ 1)
      ∧ (0x3000 ≤ (0x3FFF : Addr).toNat ∧ (0x3FFF : Addr).toNat ≤ 0x3FFF) ∧ 0x8000 ≤ (0x8000 : Addr).toNat
      ∧ (0x200A ≤ (0x200A : Addr).toNat ∧ (0x27FF : Addr).toNat ≤ 0x27FF) := by decide

/-- The bus right after reset with DMA_FLAGS set. -/
def windowBus (dma : Byte) : Bus := { State.reset.bus with sysctl := State.reset.bus.sysctl.set 7 dma }

theorem witness_VideoWindowFollowsMode :
    (0x4000 ≤ (0x4000 : Addr).toNat ∧ (0x7FFF : Addr).toNat ≤ 0x7FFF)
      ∧ ((windowBus 0x00).map = defaultBusMap ∧ ((windowBus 0x00).sysctl.get 7).getLsbD 5 = false
          ∧ ((windowBus 0x00).sysctl.get 7).getLsbD 0 = false)
      ∧ (((windowBus 0x20).sysctl.get 7).getLsbD 5 = true ∧ ((windowBus 0x20).sysctl.get 7).getLsbD 0 = false)
      ∧ ((windowBus 0x21).sysctl.get 7).getLsbD 0 = true := by decide

theorem witness_WriteThenReadReturnsByte :
    (0x1FFF : Addr).toNat ≤ 0x1FFF ∧ (0x2800 ≤ (0x280F : Addr).toNat ∧ (0x280F : Addr).toNat ≤ 0x280F)
      ∧ (0x3000 ≤ (0x7FFF : Addr).toNat ∧ (0x7FFF : Addr).toNat ≤ 0x7FFF) := by decide

theorem witness_OutputRegisterClocksShiftRegister : State.reset.bus.map = defaultBusMap := by decide

theorem witness_BankSelectSequenceSelects : State.reset.bus.map = defaultBusMap := by decide

theorem witness_CartridgeWindows :
    0x8000 ≤ (0x8000 : Addr).toNat ∧ (⟨.k8, Memory.empty⟩ : Cartridge).size = .k8
      ∧ (⟨.m2, Memory.empty⟩ : Cartridge).size = .m2 ∧ 0xC000 ≤ (0xC000 : Addr).toNat ∧ (0xBFFF : Addr).toNat < 0xC000
      ∧ vectorCartridge.size = .k32 := by decide

theorem witness_ConstructionChecksPayload :
    (([] : List Byte).length ≠ 8192 ∧ ([] : List Byte).length ≠ 32768 ∧ ([] : List Byte).length ≠ 2097152)
      ∧ (List.replicate 8192 (0x00 : Byte)).length = CartSize.k8.bytes
      ∧ (List.replicate 32768 (0x00 : Byte)).length = CartSize.k32.bytes
      ∧ (List.replicate 2097152 (0x00 : Byte)).length = CartSize.m2.bytes :=
  ⟨by decide, List.length_replicate, List.length_replicate, List.length_replicate⟩

theorem witness_SlowVariantAlwaysSpendsIndexCycle :
    (fun slow => Mode.izy 0x20 slow)
      ∈ [fun slow => Mode.absx 0x12FF slow, fun slow => Mode.absy 0x12FF slow, fun slow => Mode.izy 0x20 slow] := by simp

theorem witness_DecimalAddition : isBcd 0x99 ∧ isBcd 0x00 := by unfold isBcd; decide

theorem witness_DecimalSubtraction : isBcd 0x00 ∧ isBcd 0x99 := by unfold isBcd; decide

theorem witness_AccessorCapabilities :
    (Accessor.none = .none ∨ Accessor.none = .branch 0xFFFF)
      ∧ (Accessor.branch 0xFFFF = .branch 0xFFFF ∨ Accessor.branch 0xFFFF = .bitBranch 0x00 0xFFFF)
      ∧ (Accessor.imm 0x00 = .none ∨ Accessor.imm 0x00 = .regA ∨ Accessor.imm 0x00 = .imm 0x00 ∨ Accessor.imm 0x00 = .addr 0) :=
  ⟨.inl rfl, .inl rfl, .inr (.inr (.inl rfl))⟩

/-- For StoredAt: a byte behind the address, another byte, and a byte of the cartridge. -/
theorem witness_StoredAt :
    State.reset.bus.locate 0x1FFF = some (.ram 0x1FFF) ∧ State.reset.bus.locate 0x1FFF ≠ some (.aram 0)
      ∧ State.reset.bus.locate 0x8000 = some (.rom 0) := by decide

/-- For the frame clauses of PushesComplete, JsrCompletes, BrkCompletes and InterruptEntry: a byte behind none of the pushed
addresses, with S wrapping. -/
theorem witness_frames :
    State.reset.bus.locate (stackAddr 0x00) ≠ some (.ram 0x0101) ∧ State.reset.bus.locate (stackAddr (0x00 - 1)) ≠ some (.ram 0x0101)
      ∧ State.reset.bus.locate (stackAddr (0x00 - 2)) ≠ some (.ram 0x0101) := by decide

theorem witness_LoadsComplete :
    ldaForm (.ldaIzy 0xFF) = some (0xB1, .izy 0xFF false) ∧ ldxForm (.ldxImm 0x80) = some (0xA2, .imm 0x80)
      ∧ ldyForm (.ldyAbsx 0xFFFF) = some (0xBC, .absx 0xFFFF false) := by decide

theorem witness_StoresComplete :
    staForm (.staAbsx 0xFFFF) = some (0x9D, .absx 0xFFFF true) ∧ stxForm (.stxZpy 0xFF) = some (0x96, .zpy 0xFF)
      ∧ styForm (.styZp 0x00) = some (0x84, .zp 0x00) ∧ stzForm (.stzAbs 0x2801) = some (0x9C, .abs 0x2801) := by decide

theorem witness_AddAndSubtractComplete :
    adcForm (.adcImm 0xFF) = some (0x69, .imm 0xFF) ∧ sbcForm (.sbcIzp 0xFF) = some (0xF2, .izp 0xFF) := by decide

theorem witness_LogicCompletes :
    andForm (.andZpx 0xFF) = some (0x35, .zpx 0xFF) ∧ oraForm (.oraIzx 0xFF) = some (0x01, .izx 0xFF)
      ∧ eorForm (.eorAbsy 0xFFFF) = some (0x59, .absy 0xFFFF false) := by decide

theorem witness_ComparesAndBitComplete :
    cmpForm (.cmpZp 0x00) = some (0xC5, .zp 0x00) ∧ cpxForm (.cpxAbs 0x8000) = some (0xEC, .abs 0x8000)
      ∧ cpyForm (.cpyImm 0x00) = some (0xC0, .imm 0x00) ∧ bitForm (.bitAbsx 0xFFFF) = some (0x3C, .absx 0xFFFF false)
      ∧ (∀ w, Mode.absx 0xFFFF false ≠ .imm w) ∧ bitForm (.bitImm 0xC0) = some (0x89, .imm 0xC0) :=
  ⟨by decide, by decide, by decide, by decide, nofun, by decide⟩

theorem witness_ReadModifyWriteCompletes :
    aslForm (.aslZp 0xFF) = some (0x06, .zp 0xFF) ∧ lsrForm (.lsrAbsx 0xFFFF) = some (0x5E, .absx 0xFFFF false)
      ∧ rolForm (.rolAbs 0x2801) = some (0x2E, .abs 0x2801) ∧ rorForm (.rorZpx 0xFF) = some (0x76, .zpx 0xFF)
      ∧ incForm (.incAbsx 0xFFFF) = some (0xFE, .absx 0xFFFF true) ∧ decForm (.decZp 0x00) = some (0xC6, .zp 0x00)
      ∧ tsbForm (.tsbAbs 0x8000) = some (0x0C, .abs 0x8000) ∧ trbForm (.trbZp 0x00) = some (0x14, .zp 0x00) := by decide

theorem witness_BitResetAndSetComplete :
    rmbForm (.rmb0 0x00) = some (0x07, .zp 0x00, 0) ∧ smbForm (.smb7 0xFF) = some (0xF7, .zp 0xFF, 7) := by decide

theorem witness_BranchesComplete : ∃ cond, branchForm (.bcs (-128)) = some (0xB0, -128, cond) := ⟨_, rfl⟩

theorem witness_BitBranchesComplete :
    bitBranchForm (.bbr0 0xFF 127) = some (0x0F, 0xFF, 127, 0, false)
      ∧ bitBranchForm (.bbs7 0x00 (-128)) = some (0xFF, 0x00, -128, 7, true) := by decide

theorem witness_ReservedOpcodesRunAsNops :
    ({ State.reset with reserved := .nop } : State).reserved = .nop ∧ reservedForm (.nop02 0xFF) = some (0x02, .imm 0xFF)
      ∧ reservedForm .nop03 = some (0x03, .nop1) ∧ reservedForm (.nop44 0xFF) = some (0x44, .zp 0xFF)
      ∧ reservedForm (.nop54 0xFF) = some (0x54, .zpx 0xFF) ∧ reservedForm (.nopDC 0xFFFF) = some (0xDC, .abs 0xFFFF)
      ∧ reservedForm (.nopFC 0x0000) = some (0xFC, .abs 0x0000) := by decide

/-- A machine after reset under Nop that follows one account of 0x5C. -/
def nopMachine (account : Opcode5C) : State := { State.reset with reserved := .nop, opcode5C := account }

theorem witness_ReservedOpcodesRunAsNops_5C :
    (nopMachine .fiveIdles).reserved = .nop ∧ (nopMachine .fiveIdles).opcode5C = .fiveIdles
      ∧ (nopMachine .discardedRead).reserved = .nop ∧ (nopMachine .discardedRead).opcode5C = .discardedRead := by decide

theorem witness_ReservedOpcodesAreRefused :
    State.reset.reserved = .refuse ∧ opcodeOf .nop03 ∈ reservedOpcodes
      ∧ opcodeOf (.nop5C 0x1000) ∈ reservedOpcodes := by decide

theorem witness_WaitStepWakes : ({ ldaMachine with waiting := true } : State).waiting = true := by decide

end Sys2Proof.Tests
end

section
/-! SUPPORT. What the bus does behind an address of each class, the register fields under the default parameters, and the
cartridge as constructed (20_memory R79 to R96). -/

namespace Sys2Proof.Machine

/-! ### Bit fields -/

theorem extractLsb'_one {w : Nat} (v : BitVec w) (i : Nat) : v.extractLsb' i 1 = BitVec.ofBool (v.getLsbD i) := by
  ext j hj
  obtain rfl : j = 0 := by omega
  simp

/-- A data bit shifted in at the right (20_memory R83). -/
theorem extractLsb'_one_setWidth {w : Nat} (v : BitVec w) (i : Nat) :
    (v.extractLsb' i 1).setWidth 8 = if v.getLsbD i then (1 : Byte) else 0 := by
  rw [extractLsb'_one]
  cases v.getLsbD i <;> rfl

theorem extractLsb'_zero_eq_setWidth (v : Byte) : v.extractLsb' 0 7 = v.setWidth 7 := by
  ext j hj
  simp

/-- The dirty flags are numbered by bank, then by quadrant (10_state R42). -/
theorem dirtyIndex_val (bank : BitVec 3) (q : BitVec 2) : (dirtyIndex bank q).val = bank.toNat * 4 + q.toNat := by
  have h : (dirtyIndex bank q).val = bank.toNat <<< 2 ||| q.toNat := BitVec.toNat_append bank q
  rw [h, ← Nat.shiftLeft_add_eq_or_of_lt q.isLt, Nat.shiftLeft_eq]

/-! ### An access by the location behind its address -/

theorem Bus.read_of_locate {b : Bus} {a : Addr} {loc : Loc} (h : b.locate a = some loc) (hsys : ∀ k, loc ≠ .sysctl k)
    (l : Lines) : b.read l a = b.peek loc := by
  cases loc with
  | sysctl k => exact absurd rfl (hsys k)
  | _ => simp only [Bus.read, h]

theorem Bus.readReport_of_locate {b : Bus} {a : Addr} {loc : Loc} (h : b.locate a = some loc)
    (hsys : ∀ k, loc ≠ .sysctl k) : b.readReport a = [] := by
  cases loc with
  | sysctl k => exact absurd rfl (hsys k)
  | _ => simp only [Bus.readReport, h]

theorem Bus.writeReport_of_locate {b : Bus} {a : Addr} {loc : Loc} (h : b.locate a = some loc)
    (hrom : ∀ k, loc ≠ .rom k) (v : Byte) : b.writeReport a v = [] := by
  cases loc with
  | rom k => exact absurd rfl (hrom k)
  | _ => simp only [Bus.writeReport, h]

theorem Bus.write_of_locate_fb {b : Bus} {a : Addr} {k : Nat} (h : b.locate a = some (.fb k)) (v : Byte) :
    b.write a v = { b with fb := b.fb.set k v } := by
  simp only [Bus.write, h, Bus.poke]

theorem Bus.write_of_locate_blit {b : Bus} {a : Addr} {k : Nat} (h : b.locate a = some (.blit k)) (v : Byte) :
    b.write a v = { b with blit := b.blit.set k v } := by
  simp only [Bus.write, h, Bus.poke]

theorem Bus.write_of_locate_via {b : Bus} {a : Addr} {k : Fin 16} (h : b.locate a = some (.via k)) (v : Byte) :
    b.write a v = b.viaWrite k v := by
  simp only [Bus.write, h]

/-- A write behind VRAM, with the number of its dirty flag (20_memory R87). -/
theorem Bus.write_of_locate_vram {b : Bus} {a : Addr} {k : Nat} (h : b.locate a = some (.vram k)) (v : Byte) :
    ∃ hd : b.vramBank.toNat * 4 + b.quadrant.toNat < 32,
      b.write a v = { b with
        vram := b.vram.set k v
        dirty := b.dirty.set (b.vramBank.toNat * 4 + b.quadrant.toNat) true hd } := by
  have hd := (dirtyIndex b.vramBank b.quadrant).isLt
  rw [dirtyIndex_val] at hd
  exact ⟨hd, by simp only [Bus.write, h, Bus.vramWrite, Bus.poke, dirtyIndex_val]⟩

/-! ### The address decode by region -/

theorem Bus.locate_video (b : Bus) {a : Addr} (hlo : 0x4000 ≤ a.toNat) (hhi : a.toNat ≤ 0x7FFF) :
    b.locate a = some (b.locateVideo (a.toNat - 0x4000)) := by
  obtain ⟨h, -⟩ | ⟨k, h, -⟩ | ⟨k, h, -⟩ | ⟨-, h, -⟩ | ⟨-, -, e⟩ | ⟨h, -⟩ | ⟨h, -⟩ := b.locate_cases a
  case inr.inr.inr.inr.inl => exact e
  all_goals omega

theorem Bus.locate_cartridge (b : Bus) {a : Addr} (hlo : 0x8000 ≤ a.toNat) :
    b.locate a = some (.rom (b.cart.size.offset b.cartBank (a.toNat - 0x8000))) := by
  obtain ⟨h, -⟩ | ⟨k, h, -⟩ | ⟨k, h, -⟩ | ⟨-, h, -⟩ | ⟨-, h, -⟩ | ⟨-, e⟩ | ⟨h, -⟩ := b.locate_cases a
  case inr.inr.inr.inr.inr.inl => exact e
  all_goals omega

/-- The output register of the I/O adapter (20_memory R82). -/
theorem Bus.locate_outputRegister (b : Bus) : b.locate 0x2801 = some (.via 1) := rfl

/-! ### The video window -/

theorem Bus.windowMode_eq (b : Bus) :
    b.windowMode = BitVec.ofBool (b.dmaFlags.getLsbD b.map.cpuToVramBit.val)
      ++ BitVec.ofBool (b.dmaFlags.getLsbD b.map.dmaEnableBit.val) := by
  rw [Bus.windowMode, extractLsb'_one, extractLsb'_one]

/-- Framebuffer mode (20_memory R86). -/
theorem Bus.windowMode_eq_zero {b : Bus} (hvram : b.dmaFlags.getLsbD b.map.cpuToVramBit.val = false)
    (hdma : b.dmaFlags.getLsbD b.map.dmaEnableBit.val = false) : b.windowMode = 0 := by
  rw [b.windowMode_eq, hvram, hdma]; rfl

/-- VRAM mode (20_memory R87). -/
theorem Bus.windowMode_eq_two {b : Bus} (hvram : b.dmaFlags.getLsbD b.map.cpuToVramBit.val = true)
    (hdma : b.dmaFlags.getLsbD b.map.dmaEnableBit.val = false) : b.windowMode = 2 := by
  rw [b.windowMode_eq, hvram, hdma]; rfl

/-- Blitter mode, whatever the other mode bit (20_memory R88). -/
theorem Bus.windowMode_odd {b : Bus} (hdma : b.dmaFlags.getLsbD b.map.dmaEnableBit.val = true) :
    b.windowMode ≠ 0 ∧ b.windowMode ≠ 2 := by
  rw [b.windowMode_eq, hdma]
  cases b.dmaFlags.getLsbD b.map.cpuToVramBit.val <;> decide

theorem Bus.locateVideo_framebuffer {b : Bus} (h : b.windowMode = 0) (o : Nat) :
    b.locateVideo o = .fb (b.fbSelect.toNat * 0x4000 + o) := by
  simp [Bus.locateVideo, h]

theorem Bus.locateVideo_vram {b : Bus} (h : b.windowMode = 2) (o : Nat) :
    b.locateVideo o = .vram (b.vramBank.toNat * 0x10000 + b.vramIndex o) := by
  simp [Bus.locateVideo, h]

theorem Bus.locateVideo_blitter {b : Bus} (h0 : b.windowMode ≠ 0) (h2 : b.windowMode ≠ 2) (o : Nat) :
    b.locateVideo o = .blit (o % 2 ^ b.map.blitIndexBits.val) := by
  simp only [Bus.locateVideo, if_neg h0, if_neg h2]

theorem Bus.locateVideo_ne_sysctl (b : Bus) (o : Nat) (k : Fin 10) : b.locateVideo o ≠ .sysctl k := by
  obtain ⟨-, e⟩ | ⟨-, e⟩ | ⟨-, -, e⟩ := b.locateVideo_cases o <;> rw [e] <;> nofun

theorem Bus.locateVideo_ne_rom (b : Bus) (o k : Nat) : b.locateVideo o ≠ .rom k := by
  obtain ⟨-, e⟩ | ⟨-, e⟩ | ⟨-, -, e⟩ := b.locateVideo_cases o <;> rw [e] <;> nofun

/-! ### Register fields under the default parameters (10_state R44, R45) -/

section DefaultMap
variable {b : Bus} (hmap : b.map = defaultBusMap)
include hmap

theorem Bus.banking_default : b.banking = b.sysctl.get 5 := by rw [Bus.banking, hmap]; rfl

/-- Bit 1 of the window mode (20_memory R85). -/
theorem Bus.cpuToVram_default : b.dmaFlags.getLsbD b.map.cpuToVramBit.val = (b.sysctl.get 7).getLsbD 5 := by
  rw [Bus.dmaFlags, hmap]; rfl

/-- Bit 0 of the window mode (20_memory R85). -/
theorem Bus.dmaEnable_default : b.dmaFlags.getLsbD b.map.dmaEnableBit.val = (b.sysctl.get 7).getLsbD 0 := by
  rw [Bus.dmaFlags, hmap]; rfl

theorem Bus.vramBank_default : b.vramBank = (b.sysctl.get 5).extractLsb' 0 3 := by
  rw [Bus.vramBank, Bus.banking_default hmap, hmap]; rfl

theorem Bus.fbSelect_default : b.fbSelect = (b.sysctl.get 5).extractLsb' 3 1 := by
  rw [Bus.fbSelect, Bus.banking_default hmap, hmap]; rfl

theorem Bus.vramIndex_default (o : Nat) :
    b.vramIndex o = (o / 128 + (if b.quadrant.getLsbD 1 then 128 else 0)) * 256
      + (o % 128 + (if b.quadrant.getLsbD 0 then 128 else 0)) := by
  rw [Bus.vramIndex, hmap]; rfl

/-- `ViaWrite` of the output register (20_memory R83). -/
theorem Bus.viaWrite_outputRegister_default (new : Byte) :
    let edge := new &&& ~~~(b.via.get 1)
    let sr := if edge.getLsbD 0 then (b.sr <<< 1) ||| (if new.getLsbD 1 then 1 else 0) else b.sr
    b.viaWrite 1 new
      = { b with sr := sr, cartBank := (if edge.getLsbD 2 then sr.setWidth 7 else b.cartBank), via := b.via.set 1 new } := by
  simp only [Bus.viaWrite, hmap, extractLsb'_one_setWidth, extractLsb'_zero_eq_setWidth]
  rfl

end DefaultMap

/-! ### The cartridge -/

theorem CartSize.offset_k32 (bank : BitVec 7) {c : Nat} (hc : c < 0x8000) : CartSize.k32.offset bank c = c :=
  Nat.mod_eq_of_lt hc

/-- The upper half of the window shows bank 0x7F (20_memory R96). -/
theorem CartSize.offset_m2_fixed (bank : BitVec 7) {c : Nat} (hlo : 0x4000 ≤ c) (hc : c < 0x8000) :
    CartSize.m2.offset bank c = 0x1FC000 + (c - 0x4000) := by
  simp only [CartSize.offset, if_pos hlo]
  omega

/-- The lower half of the window shows the selected bank (20_memory R96). -/
theorem CartSize.offset_m2_banked (bank : BitVec 7) {c : Nat} (hc : c < 0x4000) :
    CartSize.m2.offset bank c = bank.toNat * 0x4000 + c := by
  simp only [CartSize.offset, if_neg (Nat.not_le.mpr hc), Nat.mod_eq_of_lt hc]

theorem Bus.read_cartridge (b : Bus) (l : Lines) {a : Addr} (hlo : 0x8000 ≤ a.toNat) :
    b.read l a = b.cart.data.get (b.cart.size.offset b.cartBank (a.toNat - 0x8000)) :=
  Bus.read_of_locate (b.locate_cartridge hlo) nofun l

/-! ### Construction -/

@[simp] theorem cartSizeOf_bytes (size : CartSize) : cartSizeOf size.bytes = some size := by
  cases size <;> rfl

theorem cartSizeOf_eq_none {n : Nat} (h8 : n ≠ 8192) (h32 : n ≠ 32768) (h2 : n ≠ 2097152) : cartSizeOf n = none := by
  simp only [cartSizeOf, if_neg h8, if_neg h32, if_neg h2]

theorem State.construct_of_length {payload : List Byte} {size : CartSize} (h : payload.length = size.bytes) :
    State.construct payload
      = .next ((State.powerOn ⟨size, Memory.ofBytes payload⟩).setResetRequest true) := by
  simp only [State.construct, h, cartSizeOf_bytes]
  rfl

theorem State.construct_of_other_length {payload : List Byte} (h8 : payload.length ≠ 8192)
    (h32 : payload.length ≠ 32768) (h2 : payload.length ≠ 2097152) :
    State.construct payload = .fault (.cartSize payload.length) := by
  simp only [State.construct, cartSizeOf_eq_none h8 h32 h2]

/-- The memories are empty after construction; the cartridge has to bring its own canonical form. -/
theorem State.powerOn_wf {cart : Cartridge} (h : cart.data.wf cart.size.bytes = true) :
    (State.powerOn cart).bus.wf = true := by
  rw [Bus.wf_iff]
  exact ⟨rfl, rfl, rfl, rfl, rfl, h⟩

theorem step_of_no_agents {s : State} (h : s.agents = []) : step s = s.dispatch := by
  simp only [step, State.betweenSteps, h]

theorem State.dispatch_of_resetRequest {s : State} (h : s.resetRequest = true) : s.dispatch = .next s.resetStep := by
  simp only [State.dispatch, State.choice, h, if_true]

end Sys2Proof.Machine
end

section
/-! SUPPORT. The statements on the video window, the output register and the cartridge (20_memory R83 to R96). -/

namespace Sys2Proof.Proofs

open Sys2Proof Sys2Proof.Machine

/-- Settles O21: 0x2801 is the output register, and a write to it is `ViaWrite`. -/
theorem outputRegisterClocksShiftRegister : Obligations.OutputRegisterClocksShiftRegister := by
  intro b new hmap
  have hloc := b.locate_outputRegister
  exact ⟨(Bus.write_of_locate_via hloc new).trans (Bus.viaWrite_outputRegister_default hmap new),
    Bus.writeReport_of_locate hloc nofun new⟩

/-- Settles O23, by the payload offset that each variant gives. -/
theorem cartridgeWindows : Obligations.CartridgeWindows := by
  intro b l a hlo c
  have hc : c < 0x8000 := by have := a.isLt; omega
  rw [b.read_cartridge l hlo]
  refine ⟨fun hk8 => ?k8, fun hk32 => ?k32, fun hm2 hhi => ?fixed, fun hm2 hlt => ?banked,
    Bus.readReport_of_locate (b.locate_cartridge hlo) nofun⟩
  case k8 => rw [hk8]; rfl
  case k32 => rw [hk32, CartSize.offset_k32 _ hc]
  case fixed =>
    have hoff : c - 0x4000 = a.toNat - 0xC000 := by omega
    rw [hm2, CartSize.offset_m2_fixed _ (by omega) hc, hoff]
  case banked => rw [hm2, CartSize.offset_m2_banked _ (by omega)]

/-- Settles O19: each setting of the two mode bits names one kind of location, which every access then follows. -/
theorem videoWindowFollowsMode : Obligations.VideoWindowFollowsMode := by
  intro b l a v hmap hlo hhi dma banking o x y bank
  have hloc := b.locate_video hlo hhi
  have hbit5 := Bus.cpuToVram_default hmap
  have hbit0 := Bus.dmaEnable_default hmap
  refine ⟨fun h5 h0 => ?framebuffer, fun h5 h0 => ?vram, fun h0 => ?blitter,
    Bus.readReport_of_locate hloc (b.locateVideo_ne_sysctl _), Bus.writeReport_of_locate hloc (b.locateVideo_ne_rom _) v⟩
  case framebuffer =>
    have hmode := Bus.windowMode_eq_zero (hbit5.trans h5) (hbit0.trans h0)
    rw [Bus.locateVideo_framebuffer hmode, Bus.fbSelect_default hmap] at hloc
    exact ⟨Bus.read_of_locate hloc nofun l, Bus.write_of_locate_fb hloc v⟩
  case vram =>
    have hmode := Bus.windowMode_eq_two (hbit5.trans h5) (hbit0.trans h0)
    rw [Bus.locateVideo_vram hmode, Bus.vramIndex_default hmap] at hloc
    have hwrite := Bus.write_of_locate_vram hloc v
    simp only [Bus.vramBank_default hmap] at hloc hwrite
    exact ⟨Bus.read_of_locate hloc nofun l, hwrite⟩
  case blitter =>
    obtain ⟨hmode0, hmode2⟩ := Bus.windowMode_odd (hbit0.trans h0)
    rw [Bus.locateVideo_blitter hmode0 hmode2, hmap] at hloc
    exact ⟨Bus.read_of_locate hloc nofun l, Bus.write_of_locate_blit hloc v⟩

/-- Settles O24, by the variant of the payload's length. -/
theorem constructionChecksPayload : Obligations.ConstructionChecksPayload := by
  intro payload
  refine ⟨State.construct_of_other_length, fun size hlen => ⟨_, State.construct_of_length hlen, rfl, ?wf, ?bytes, ?step⟩⟩
  case wf => exact State.powerOn_wf (hlen ▸ Memory.wf_ofBytes payload)
  case bytes => exact fun k _ => Memory.get_ofBytes payload k
  case step => rw [step_of_no_agents rfl, State.dispatch_of_resetRequest rfl]

end Sys2Proof.Proofs
end

section
/-! SUPPORT. Where an opcode stands in the matrix (30_encoding R147, R148). -/

namespace Sys2Proof

open Sys2Proof.Claims

/-! ### Row and column of an opcode -/

theorem opcodeHi_val (op : Byte) : (opcodeHi op).val = op.toNat / 16 := by
  have := op.isLt
  simp only [opcodeHi, BitVec.extractLsb', Nat.shiftRight_eq_div_pow, BitVec.toFin_ofNat, Fin.val_ofNat]
  omega

theorem opcodeLo_val (op : Byte) : (opcodeLo op).val = op.toNat % 16 := by
  simp only [opcodeLo, BitVec.extractLsb', Nat.shiftRight_zero, BitVec.toFin_ofNat, Fin.val_ofNat]

/-- `decodeBytes` reads the entry in the row of opcode[7:4] and the column of opcode[3:0]. -/
theorem decodeBytes_of_row_column {op : Nat} (hi lo : Fin 16) (hop : op = hi.val * 16 + lo.val) (b c : Byte) :
    decodeBytes (BitVec.ofNat 8 op) b c = (opcodeMatrix.get hi).get lo b c := by
  have hval : (BitVec.ofNat 8 op).toNat = hi.val * 16 + lo.val := by
    rw [BitVec.toNat_ofNat, hop]; omega
  have hrow : opcodeHi (BitVec.ofNat 8 op) = hi := by
    apply Fin.ext; rw [opcodeHi_val, hval]; omega
  have hcol : opcodeLo (BitVec.ofNat 8 op) = lo := by
    apply Fin.ext; rw [opcodeLo_val, hval]; omega
  rw [decodeBytes, hrow, hcol]

/-! ### The columns of the bit instructions -/

/-- The row of a bit instruction: opcode[7] is `bit7`, opcode[6:4] the bit number. -/
def bitRow (bit7 : Bool) (n : Fin 8) : Fin 16 :=
  if bit7 then n.natAdd 8 else n.castAdd 8

theorem bitRow_false_val (n : Fin 8) : (bitRow false n).val = n.val := rfl

theorem bitRow_true_val (n : Fin 8) : (bitRow true n).val = 8 + n.val := rfl

/-- Column 7 of the matrix, read by rows. -/
theorem opcodeMatrix_column7 (bit7 : Bool) (n : Fin 8) (b c : Byte) :
    (opcodeMatrix.get (bitRow bit7 n)).get 7 b c = if bit7 then smbAt n b else rmbAt n b := by
  cases bit7 <;> fin_cases n <;> rfl

/-- Column F of the matrix, read by rows. -/
theorem opcodeMatrix_columnF (bit7 : Bool) (n : Fin 8) (b c : Byte) :
    (opcodeMatrix.get (bitRow bit7 n)).get 0xF b c = if bit7 then bbsAt n b c.toInt else bbrAt n b c.toInt := by
  cases bit7 <;> fin_cases n <;> rfl

end Sys2Proof
end

section
/-! SUPPORT. The statement on the bit instructions' opcodes (30_encoding R147). -/

namespace Sys2Proof.Proofs

open Sys2Proof

/-- Settles O4: opcode[6:4] and bit 7 are the row, and columns 7 and F of the matrix hold the bit instructions. -/
theorem bitInstructionsDecodeByField : Obligations.BitInstructionsDecodeByField := by
  intro n b c
  have clearRow := bitRow_false_val n
  have setRow := bitRow_true_val n
  refine ⟨?rmb, ?smb, ?bbr, ?bbs⟩
  case rmb => exact (decodeBytes_of_row_column (bitRow false n) 7 (by omega) b c).trans (opcodeMatrix_column7 false n b c)
  case smb => exact (decodeBytes_of_row_column (bitRow true n) 7 (by omega) b c).trans (opcodeMatrix_column7 true n b c)
  case bbr => exact (decodeBytes_of_row_column (bitRow false n) 0xF (by omega) b c).trans (opcodeMatrix_columnF false n b c)
  case bbs => exact (decodeBytes_of_row_column (bitRow true n) 0xF (by omega) b c).trans (opcodeMatrix_columnF true n b c)

end Sys2Proof.Proofs
end

section
/-! SUPPORT. The steps that answer without running an instruction: a reserved opcode under Refuse (41_accessors R219) and
the wait step (41_accessors R220). -/

namespace Sys2Proof.Machine

open Sys2Proof Sys2Proof.Claims

/-! ### Reserved opcodes -/

/-- `exec` sends every constructor whose opcode is reserved to `reservedStep`, with that opcode. The hypothesis is kept as a
`Bool`, so that it computes to `false` at every other constructor. -/
theorem exec_eq_reservedStep {i : Instr} (h : opcodeOf i ∈ reservedOpcodes) (s : State) :
    ∃ run, exec i s = reservedStep (opcodeOf i) run s := by
  have hop := decide_eq_true h
  cases i with
  | nop02 | nop22 | nop42 | nop62 | nop82 | nopC2 | nopE2 => exact ⟨_, rfl⟩
  | nop44 | nop54 | nopD4 | nopF4 | nopDC | nopFC | nop5C => exact ⟨_, rfl⟩
  | nop03 | nop13 | nop23 | nop33 | nop43 | nop53 | nop63 | nop73 => exact ⟨_, rfl⟩
  | nop83 | nop93 | nopA3 | nopB3 | nopC3 | nopD3 | nopE3 | nopF3 => exact ⟨_, rfl⟩
  | nop0B | nop1B | nop2B | nop3B | nop4B | nop5B | nop6B | nop7B => exact ⟨_, rfl⟩
  | nop8B | nop9B | nopAB | nopBB | nopEB | nopFB => exact ⟨_, rfl⟩
  | _ => exact absurd hop Bool.false_ne_true

/-! ### The wait step -/

/-- An IRQ level or an NMI edge of the idle cycle ends the wait; I is not asked (41_accessors R220). -/
def State.wakes (s : State) : Bool := (s.linesAt 1).irq || s.edgeAfter 1

/-- A wait step is one idle cycle, after which a wake ends the wait and samples that cycle. -/
theorem State.waitStep_eq (s : State) :
    s.waitStep = if s.wakes then ((s.beginStep .wait).idle.setWaiting false).edgeCheck 1 else (s.beginStep .wait).idle := by
  have hedge : (s.beginStep .wait).idle.nmiEdge = s.edgeAfter 1 :=
    (s.beginStep .wait).idle_clock.edge.trans (s.beginStep_edgeAfter .wait 1)
  rw [State.waitStep, hedge]
  rfl

theorem State.waitStep_arch (s : State) :
    s.waitStep.arch = { s.arch with waiting := s.waiting && !s.wakes } := by
  rw [State.waitStep_eq]
  cases s.wakes with
  | true => simp
  | false => simp [State.arch]

/-- The sample of a wait step is the only thing a wake adds to the latch; an IRQ counts in it only if I is clear. -/
theorem State.waitStep_pending (s : State) :
    s.waitStep.pending = (s.pending || (s.wakes && s.sampleAfter s.p.i 1)) := by
  have hclock := (s.beginStep .wait).idle_clock
  rw [State.waitStep_eq]
  cases s.wakes with
  | true =>
    have hsample := (hclock.trans (Clock.of_setWaiting _ _ false)).edgeCheck_pending rfl (k := 1) (by decide) (by decide)
    simpa using hsample
  | false => simpa using hclock.pending

/-- Everything else about a wait step is its idle cycle's, whether or not it wakes. -/
theorem State.waitStep_clocks (s : State) :
    s.waitStep.trace = [.idle] ∧ s.waitStep.cycles = s.cycles + 1 ∧ s.waitStep.outcome = .wait
      ∧ s.waitStep.nmiEdge = s.edgeAfter 1 ∧ s.waitStep.nmiPrev = s.prevAfter 1 := by
  have hclock := (s.beginStep .wait).idle_clock
  have hedge := hclock.edge.trans (s.beginStep_edgeAfter .wait 1)
  have hprev := hclock.prev.trans (s.beginStep_prevAfter .wait 1)
  rw [State.waitStep_eq]
  cases s.wakes <;> exact ⟨hclock.trace, hclock.cycles, hclock.outcome, hedge, hprev⟩

end Sys2Proof.Machine
end

section
/-! SUPPORT. The statements on refused opcodes and the wait step (41_accessors R219, R220). -/

namespace Sys2Proof.Proofs

open Sys2Proof Sys2Proof.Machine Sys2Proof.Claims

/-- Settles O56: a reserved opcode runs `reservedStep`, which refuses under Refuse. -/
theorem reservedOpcodesAreRefused : Obligations.ReservedOpcodesAreRefused := by
  intro i s hrefuse hop
  obtain ⟨run, hexec⟩ := exec_eq_reservedStep hop s
  rw [hexec]
  exact reservedStep_refuses _ run hrefuse

/-- Settles O58, from what a wait step writes, what it samples and what its idle cycle clocks. -/
theorem waitStepWakes : Obligations.WaitStepWakes := by
  intro s hwaiting
  have harch : s.waitStep.arch = { s.arch with waiting := !s.wakes } := by
    rw [s.waitStep_arch, hwaiting, Bool.true_and]
  obtain ⟨htrace, hcycles, houtcome, hedge, hprev⟩ := s.waitStep_clocks
  exact ⟨harch, htrace, hcycles, houtcome, s.waitStep_reports, s.waitStep_pending, hedge, hprev⟩

end Sys2Proof.Proofs
end

section
/-! SUPPORT. Branches: what BranchOp is given by a relative and by a bit-test branch, and which branch frame each of the 25
branch instructions runs (42_branches R240 to R266). -/

namespace Sys2Proof.Machine

open Sys2Proof.Claims

/-! ### The target and the tested byte, seen from the start of the step -/

/-- A byte read without a write before it, counted from the opcode event on or from the start of the step. -/
theorem State.opcode_byteAt (s : State) (op : Byte) (k : Nat) (a : Addr) :
    (s.opcode op).byteAt k a = s.byteAt (k + 1) a := by
  simp only [State.byteAt, State.opcode_bus, (s.opcode_clock op).lines, State.beginStep_linesAt, List.length_singleton]

theorem Mode.target_rel (off : Int) (s : State) (op : Byte) :
    (Mode.rel off).target (s.opcode op) = s.pc + 2 + sext16 off := by
  rw [show (2 : Addr) = 1 + 1 from rfl, ← BitVec.add_assoc]
  rfl

theorem Mode.target_zpr (z : Byte) (off : Int) (s : State) (op : Byte) :
    (Mode.zpr z off).target (s.opcode op) = s.pc + 3 + sext16 off := by
  rw [show (3 : Addr) = 1 + 2 from rfl, ← BitVec.add_assoc]
  rfl

/-! ### The two branch frames -/

/-- An instruction that runs the relative branch frame completes; it is not taken in two events (42_branches R240). -/
theorem branchCompletes_of_branchInstr {i : Instr} {op : Byte} {off : Int} {cond : Flags → Bool} {s : State}
    (hexec : exec i s = branchInstr op off cond s) :
    BranchCompletes i op (.rel off) s 2 (s.pc + 2 + sext16 off) (cond s.p) := by
  rw [branchInstr_eq, Mode.target_rel] at hexec
  exact branchCompletes_of_branchTo hexec (Nat.le_refl 1)

/-- An instruction that runs the bit-test branch frame completes; it is not taken in five events, the third of which reads the
tested byte (42_branches R241). -/
theorem branchCompletes_of_bitBranchInstr {i : Instr} {op z : Byte} {off : Int} {cond : Byte → Bool} {s : State}
    (hexec : exec i s = bitBranchInstr op z off cond s) :
    BranchCompletes i op (.zpr z off) s 5 (s.pc + 3 + sext16 off) (cond (s.byteAt 3 (zext16 z))) := by
  rw [bitBranchInstr_eq, Mode.target_zpr, State.opcode_byteAt] at hexec
  exact branchCompletes_of_branchTo hexec (by decide : 1 ≤ 4)

/-! ### The branch instructions -/

/-- Each relative branch runs under the flag value of its form (42_branches R242 to R250). -/
theorem exec_eq_branchInstr {i : Instr} {op : Byte} {off : Int} {cond : Flags → Bool}
    (hform : branchForm i = some (op, off, cond)) (s : State) : exec i s = branchInstr op off cond s := by
  cases i with
  | bpl | bvc | bcc | bne =>
    cases hform
    simp only [Bool.decide_eq_false]
    rfl
  | bmi | bvs | bcs | beq =>
    cases hform
    simp only [Bool.decide_eq_true]
    rfl
  | bra => cases hform; rfl
  | _ => cases hform

/-- Each bit-test branch runs under the bit and the value of its form: BBRn while it is clear, BBSn while it is set
(42_branches R251 to R266). -/
theorem exec_eq_bitBranchInstr {i : Instr} {op z : Byte} {off : Int} {n : Nat} {value : Bool}
    (hform : bitBranchForm i = some (op, z, off, n, value)) (s : State) :
    exec i s = bitBranchInstr op z off (fun v => decide (v.getLsbD n = value)) s := by
  cases i with
  | bbr0 | bbr1 | bbr2 | bbr3 | bbr4 | bbr5 | bbr6 | bbr7 =>
    cases hform
    simp only [Bool.decide_eq_false]
    rfl
  | bbs0 | bbs1 | bbs2 | bbs3 | bbs4 | bbs5 | bbs6 | bbs7 =>
    cases hform
    simp only [Bool.decide_eq_true]
    rfl
  | _ => cases hform

end Sys2Proof.Machine
end

section
/-! SUPPORT. The statements on the branches (42_branches R240 to R266). -/

namespace Sys2Proof.Proofs

open Sys2Proof Sys2Proof.Machine Sys2Proof.Claims

/-- Settles O48: each relative branch runs the relative branch frame, which completes. -/
theorem branchesComplete : Obligations.BranchesComplete := by
  intro i op off cond s hform
  exact branchCompletes_of_branchInstr (exec_eq_branchInstr hform s)

/-- Settles O49: each bit-test branch runs the bit-test branch frame, which completes. -/
theorem bitBranchesComplete : Obligations.BitBranchesComplete := by
  intro i op z off n value s hform
  exact branchCompletes_of_bitBranchInstr (exec_eq_bitBranchInstr hform s)

end Sys2Proof.Proofs
end

section
/-! SUPPORT. Loads and stores: an instruction that reads its operand and then updates registers and flags completes, and so
does one that makes a single store; which loads and stores do so, by their forms (43_load_store R280 to R287). -/

namespace Sys2Proof.Machine

open Sys2Proof.Claims

/-! ### What a load leaves in a register -/

/-- `f` makes no event and does `g` to the part of the state an instruction can write. -/
def Updates (f : State → State) (g : Arch → Arch) : Prop :=
  ∀ u, (f u).arch = g u.arch ∧ ∀ i, Clock i u (f u) []

theorem loadA_updates (v : Byte) : Updates (loadA v) fun r => { r with a := v, p := r.p.setNZ v } :=
  fun u => ⟨rfl, fun i => (Clock.of_setA i u v).setP _⟩

theorem loadX_updates (v : Byte) : Updates (loadX v) fun r => { r with x := v, p := r.p.setNZ v } :=
  fun u => ⟨rfl, fun i => (Clock.of_setX i u v).setP _⟩

theorem loadY_updates (v : Byte) : Updates (loadY v) fun r => { r with y := v, p := r.p.setNZ v } :=
  fun u => ⟨rfl, fun i => (Clock.of_setY i u v).setP _⟩

/-! ### The two frames -/

/-- `i` is a read of opcode `op` through the readable mode `m`, followed by `use` of the byte (41_accessors R201, R206). -/
def ReadsThrough (i : Instr) (op : Byte) (m : Mode) (use : Byte → State → State) : Prop :=
  (m.isMemory = true ∨ ∃ v, m = .imm v) ∧ ∀ s, exec i s = readInstr op m use s

/-- `i` is a store of opcode `op` through the memory mode `m`, of the byte that `source` is at the start of the step
(41_accessors R202, R206). -/
def StoresThrough (i : Instr) (op : Byte) (m : Mode) (source : State → Byte) : Prop :=
  m.isMemory = true ∧ ∀ s, exec i s = writeInstr op m (source s) s

/-- A read whose use of the byte makes no event completes after the events of its operand. -/
theorem ReadsThrough.completes {i : Instr} {op : Byte} {m : Mode} {use : Byte → State → State} {g : Byte → Arch → Arch}
    (h : ReadsThrough i op m use) (huse : ∀ v, Updates (use v) (g v)) (s : State) :
    Completes i op m s (m.readTrace (s.opcode op)) (g (m.operandByte (s.opcode op)) (movedPast m s)) := by
  obtain ⟨hm, hexec⟩ := h
  obtain ⟨u, hrun, harch, hclock⟩ := readInstr_spec op m use s hm
  obtain ⟨huse_arch, huse_clock⟩ := huse (m.operandByte (s.opcode op)) u
  exact completes_of_clock ((hexec s).trans hrun) (huse_arch.trans (congrArg _ harch)) (hclock.same (huse_clock _))

/-- A store completes after its one write, which changes the byte behind its effective address only. -/
theorem StoresThrough.completes {i : Instr} {op : Byte} {m : Mode} {source : State → Byte}
    (h : StoresThrough i op m source) (s : State) : StoreCompletes i op m s (source s) := by
  obtain ⟨hm, hexec⟩ := h
  obtain ⟨u, hrun, harch, hclock⟩ := writeInstr_spec op m (source s) s hm
  exact ⟨completes_of_clock ((hexec s).trans hrun) harch hclock, s.bus.write_storedAt _ _⟩

/-! ### The load instructions -/

theorem readsThrough_of_ldaForm {i : Instr} {op : Byte} {m : Mode} (h : ldaForm i = some (op, m)) :
    ReadsThrough i op m loadA := by
  cases i with
  | ldaImm v => cases h; exact ⟨.inr ⟨v, rfl⟩, fun _ => rfl⟩
  | ldaZp | ldaZpx | ldaAbs | ldaAbsx | ldaAbsy | ldaIzx | ldaIzy | ldaIzp => cases h; exact ⟨.inl rfl, fun _ => rfl⟩
  | _ => cases h

theorem readsThrough_of_ldxForm {i : Instr} {op : Byte} {m : Mode} (h : ldxForm i = some (op, m)) :
    ReadsThrough i op m loadX := by
  cases i with
  | ldxImm v => cases h; exact ⟨.inr ⟨v, rfl⟩, fun _ => rfl⟩
  | ldxZp | ldxZpy | ldxAbs | ldxAbsy => cases h; exact ⟨.inl rfl, fun _ => rfl⟩
  | _ => cases h

theorem readsThrough_of_ldyForm {i : Instr} {op : Byte} {m : Mode} (h : ldyForm i = some (op, m)) :
    ReadsThrough i op m loadY := by
  cases i with
  | ldyImm v => cases h; exact ⟨.inr ⟨v, rfl⟩, fun _ => rfl⟩
  | ldyZp | ldyZpx | ldyAbs | ldyAbsx => cases h; exact ⟨.inl rfl, fun _ => rfl⟩
  | _ => cases h

/-! ### The store instructions -/

theorem storesThrough_of_staForm {i : Instr} {op : Byte} {m : Mode} (h : staForm i = some (op, m)) :
    StoresThrough i op m State.a := by
  cases i with
  | staZp | staZpx | staAbs | staAbsx | staAbsy | staIzx | staIzy | staIzp => cases h; exact ⟨rfl, fun _ => rfl⟩
  | _ => cases h

theorem storesThrough_of_stxForm {i : Instr} {op : Byte} {m : Mode} (h : stxForm i = some (op, m)) :
    StoresThrough i op m State.x := by
  cases i with
  | stxZp | stxZpy | stxAbs => cases h; exact ⟨rfl, fun _ => rfl⟩
  | _ => cases h

theorem storesThrough_of_styForm {i : Instr} {op : Byte} {m : Mode} (h : styForm i = some (op, m)) :
    StoresThrough i op m State.y := by
  cases i with
  | styZp | styZpx | styAbs => cases h; exact ⟨rfl, fun _ => rfl⟩
  | _ => cases h

theorem storesThrough_of_stzForm {i : Instr} {op : Byte} {m : Mode} (h : stzForm i = some (op, m)) :
    StoresThrough i op m fun _ => 0x00 := by
  cases i with
  | stzZp | stzZpx | stzAbs | stzAbsx => cases h; exact ⟨rfl, fun _ => rfl⟩
  | _ => cases h

end Sys2Proof.Machine
end

section
/-! SUPPORT. The statements on the loads and stores (43_load_store R280 to R287). -/

namespace Sys2Proof.Proofs

open Sys2Proof Sys2Proof.Machine Sys2Proof.Claims

/-- Settles O34: each load reads its operand, which completes, and what it then does to its register makes no event. -/
theorem loadsComplete : Obligations.LoadsComplete := by
  intro i op m s v after
  refine ⟨fun hlda => ?lda, fun hldx => ?ldx, fun hldy => ?ldy⟩
  case lda => exact (readsThrough_of_ldaForm hlda).completes loadA_updates s
  case ldx => exact (readsThrough_of_ldxForm hldx).completes loadX_updates s
  case ldy => exact (readsThrough_of_ldyForm hldy).completes loadY_updates s

/-- Settles O35: each store writes its register, or zero, through its mode, which completes. -/
theorem storesComplete : Obligations.StoresComplete := by
  intro i op m s
  refine ⟨fun hsta => ?sta, fun hstx => ?stx, fun hsty => ?sty, fun hstz => ?stz⟩
  case sta => exact (storesThrough_of_staForm hsta).completes s
  case stx => exact (storesThrough_of_stxForm hstx).completes s
  case sty => exact (storesThrough_of_styForm hsty).completes s
  case stz => exact (storesThrough_of_stzForm hstz).completes s

end Sys2Proof.Proofs
end

section
/-! SUPPORT. The additions and subtractions of 44_alu R301 to R304 as arithmetic on numbers: the sign of a byte, signed
overflow, and what the corrections of decimal mode do to decimal digits. -/

namespace Sys2Proof.Machine

open Sys2Proof.Claims

/-! ### A byte and its sign -/

theorem bitNat_le_one (c : Bool) : bitNat c ≤ 1 := by cases c <;> decide

theorem getLsbD_seven (b : Byte) : b.getLsbD 7 = decide (128 ≤ b.toNat) := BitVec.msb_eq_decide b

theorem byte_toInt (b : Byte) : b.toInt = if 128 ≤ b.toNat then (b.toNat : Int) - 256 else b.toNat := by
  rw [BitVec.toInt_eq_msb_cond, BitVec.msb_eq_decide]
  simp

/-- The high digit of a byte in place (44_alu R302). -/
theorem highDigit_toNat (a : Byte) : (a &&& 0xF0).toNat = 16 * (a.toNat / 16) := by
  have hmask : a &&& (0xF0 : Byte) = (a >>> 4) <<< 4 := by
    ext i hi
    interval_cases i <;> simp
  have hfits : a.toNat / 16 * 16 < 256 := by omega
  rw [hmask, BitVec.toNat_shiftLeft, BitVec.toNat_ushiftRight, Nat.shiftRight_eq_div_pow, Nat.shiftLeft_eq,
    Nat.mod_eq_of_lt hfits, Nat.mul_comm]

/-! ### Signed overflow -/

theorem addOverflow_iff_signs (a b r : Byte) :
    addOverflow a b r = true ↔
      (128 ≤ a.toNat ↔ 128 ≤ b.toNat) ∧ ¬(128 ≤ a.toNat ↔ 128 ≤ r.toNat) := by
  simp only [addOverflow, BitVec.getLsbD_and, BitVec.getLsbD_not, BitVec.getLsbD_xor]
  simp only [getLsbD_seven]
  simp

theorem subOverflow_iff_signs (a b r : Byte) :
    subOverflow a b r = true ↔
      ¬(128 ≤ a.toNat ↔ 128 ≤ b.toNat) ∧ ¬(128 ≤ a.toNat ↔ 128 ≤ r.toNat) := by
  simp only [subOverflow, BitVec.getLsbD_and, BitVec.getLsbD_xor]
  simp only [getLsbD_seven]
  simp

/-- The V of R301 says that the sum does not fit a signed byte. -/
theorem addOverflow_eq {a b r : Byte} {carry : Nat} (hcarry : carry ≤ 1)
    (hr : r.toNat = (a.toNat + b.toNat + carry) % 256) :
    addOverflow a b r = decide (a.toInt + b.toInt + carry < -128 ∨ 127 < a.toInt + b.toInt + carry) := by
  rw [Bool.eq_iff_iff, addOverflow_iff_signs, decide_eq_true_iff, byte_toInt a, byte_toInt b]
  split_ifs <;> omega

/-- The V of R303 says that the difference does not fit a signed byte. -/
theorem subOverflow_eq {a b r : Byte} {borrow : Nat} (hborrow : borrow ≤ 1)
    (hr : (r.toNat : Int) = ((a.toNat : Int) - b.toNat - borrow) % 256) :
    subOverflow a b r = decide (a.toInt - b.toInt - borrow < -128 ∨ 127 < a.toInt - b.toInt - borrow) := by
  rw [Bool.eq_iff_iff, subOverflow_iff_signs, decide_eq_true_iff, byte_toInt a, byte_toInt b]
  split_ifs <;> omega

/-! ### The binary results -/

theorem addBinary_toNat (a b : Byte) (p : Flags) :
    (addBinary a b p).1.toNat = (a.toNat + b.toNat + bitNat p.c) % 256 := BitVec.toNat_ofNat _ 8

theorem subDifference_eq (a b : Byte) (c : Bool) :
    subDifference a b c = (a.toNat : Int) - b.toNat - ((1 - bitNat c : Nat) : Int) := by
  have := bitNat_le_one c
  simp only [subDifference]
  omega

theorem byte_ofInt_toNat (n : Int) : ((BitVec.ofInt 8 n).toNat : Int) = n % 256 := by
  have := Int.emod_nonneg n (b := 256) (by decide)
  rw [BitVec.toNat_ofInt]
  omega

theorem subBinary_carry (a b : Byte) (p : Flags) : (subBinary a b p).2.c = decide (0 ≤ subDifference a b p.c) := rfl

theorem subBinary_toNat (a b : Byte) (p : Flags) :
    ((subBinary a b p).1.toNat : Int) = ((a.toNat : Int) - b.toNat - ((1 - bitNat p.c : Nat) : Int)) % 256 := by
  rw [← subDifference_eq]
  exact byte_ofInt_toNat _

/-! ### Decimal digits -/

/-- A byte given by its two decimal digits. -/
theorem bcd_of_digits {r : Byte} {high low : Nat} (hhigh : high ≤ 9) (hlow : low ≤ 9)
    (hr : r.toNat = 16 * high + low) : isBcd r ∧ bcd r = 10 * high + low := by
  unfold isBcd bcd
  omega

/-- The sum of two low digits and a carry, corrected, is a decimal digit and its carry into the high digit. -/
theorem addDecimalLow_digits {a b : Byte} (ha : isBcd a) (hb : isBcd b) (c : Bool) {low : Nat}
    (hlow : low = a.toNat % 16 + b.toNat % 16 + bitNat c) :
    addDecimalLow a b c = 16 * (low / 10) + low % 10 := by
  have := bitNat_le_one c
  obtain ⟨-, ha⟩ := ha
  obtain ⟨-, hb⟩ := hb
  simp only [addDecimalLow, ← hlow]
  split <;> omega

/-- On decimal digits AddDecimal adds digit by digit (44_alu R302). -/
theorem addDecimal_digits {a b : Byte} (p : Flags) (ha : isBcd a) (hb : isBcd b) {low high : Nat}
    (hlow : low = a.toNat % 16 + b.toNat % 16 + bitNat p.c) (hhigh : high = a.toNat / 16 + b.toNat / 16 + low / 10) :
    (addDecimal a b p).1.toNat = 16 * (high % 10) + low % 10 ∧ (addDecimal a b p).2.c = decide (10 ≤ high) := by
  have hsum : (a &&& 0xF0).toNat + (b &&& 0xF0).toNat + addDecimalLow a b p.c = 16 * high + low % 10 := by
    rw [highDigit_toNat, highDigit_toNat, addDecimalLow_digits ha hb p.c hlow]
    omega
  have hbound : high ≤ 19 := by
    have hcarry := bitNat_le_one p.c
    obtain ⟨ha, ha'⟩ := ha
    obtain ⟨hb, hb'⟩ := hb
    omega
  clear hlow hhigh
  simp only [addDecimal, hsum, Flags.setNZ, BitVec.toNat_ofNat, decide_eq_decide]
  split <;> omega

/-- On decimal digits AddDecimal is addition modulo 100. -/
theorem addDecimal_bcd {a b : Byte} (p : Flags) (ha : isBcd a) (hb : isBcd b) :
    isBcd (addDecimal a b p).1 ∧ bcd (addDecimal a b p).1 = (bcd a + bcd b + bitNat p.c) % 100
      ∧ (addDecimal a b p).2.c = decide (100 ≤ bcd a + bcd b + bitNat p.c) := by
  obtain ⟨hr, hc⟩ := addDecimal_digits p ha hb rfl rfl
  obtain ⟨hdigits, hvalue⟩ := bcd_of_digits (by omega) (by omega) hr
  have hcarry := bitNat_le_one p.c
  obtain ⟨ha, ha'⟩ := ha
  obtain ⟨hb, hb'⟩ := hb
  rw [hvalue, hc, decide_eq_decide]
  refine ⟨hdigits, ?_⟩
  unfold bcd
  omega

theorem subDecimal_carry (a b : Byte) (p : Flags) : (subDecimal a b p).2.c = decide (0 ≤ subDifference a b p.c) := rfl

/-- SubDecimal corrects the binary difference by its borrows (44_alu R304). -/
theorem subDecimal_toNat (a b : Byte) (p : Flags) {difference low : Int}
    (hdifference : difference = (a.toNat : Int) - b.toNat + bitNat p.c - 1)
    (hlow : low = (a.toNat % 16 : Nat) - (b.toNat % 16 : Nat) + bitNat p.c - 1) :
    ((subDecimal a b p).1.toNat : Int)
      = (difference - (if difference < 0 then 0x60 else 0) - (if low < 0 then 0x06 else 0)) % 256 := by
  have hsub : subDifference a b p.c = difference := by
    simp only [subDifference]
    omega
  simp only [subDecimal, hsub, ← hlow, byte_ofInt_toNat]
  split_ifs <;> simp only [Int.sub_zero]

/-- On decimal digits SubDecimal subtracts digit by digit, borrowing ten (44_alu R304). -/
theorem subDecimal_digits {a b : Byte} (p : Flags) (ha : isBcd a) (hb : isBcd b) {low high : Int}
    (hlow : low = (a.toNat % 16 : Nat) - (b.toNat % 16 : Nat) + bitNat p.c - 1)
    (hhigh : high = (a.toNat / 16 : Nat) - (b.toNat / 16 : Nat) + low / 10) :
    ((subDecimal a b p).1.toNat : Int) = 16 * (high % 10) + low % 10 ∧ (subDecimal a b p).2.c = decide (0 ≤ high) := by
  have hcarry := bitNat_le_one p.c
  obtain ⟨ha, ha'⟩ := ha
  obtain ⟨hb, hb'⟩ := hb
  constructor
  case left =>
    rw [subDecimal_toNat a b p rfl hlow]
    split_ifs <;> omega
  case right =>
    rw [subDecimal_carry, decide_eq_decide, subDifference]
    omega

/-- On decimal digits SubDecimal is subtraction modulo 100. -/
theorem subDecimal_bcd {a b : Byte} (p : Flags) (ha : isBcd a) (hb : isBcd b) :
    isBcd (subDecimal a b p).1 ∧ bcd (subDecimal a b p).1 = (100 + bcd a - bcd b - (1 - bitNat p.c)) % 100
      ∧ (subDecimal a b p).2.c = decide (bcd b + (1 - bitNat p.c) ≤ bcd a) := by
  obtain ⟨hr, hc⟩ := subDecimal_digits p ha hb rfl rfl
  have hcarry := bitNat_le_one p.c
  obtain ⟨ha, ha'⟩ := ha
  obtain ⟨hb, hb'⟩ := hb
  rw [hc, decide_eq_decide]
  unfold isBcd bcd
  omega

end Sys2Proof.Machine
end

section
/-! SUPPORT. The statements on binary and decimal arithmetic (44_alu R301 to R304). -/

namespace Sys2Proof.Proofs

open Sys2Proof Sys2Proof.Machine Sys2Proof.Claims

/-- Settles O29: V is the signed overflow of the sum, and the rest is read off `addBinary`. -/
theorem binaryAddition : Obligations.BinaryAddition := by
  intro a b p r
  have hsum := addBinary_toNat a b p
  exact ⟨hsum, rfl, addOverflow_eq (bitNat_le_one p.c) hsum, rfl, rfl, rfl, rfl⟩

/-- Settles O30: V is the signed overflow of the difference; the carry that R303 adds is the lack of a borrow. -/
theorem binarySubtraction : Obligations.BinarySubtraction := by
  intro a b p r
  have hborrow : 1 - bitNat p.c ≤ 1 := Nat.sub_le 1 _
  have hdifference := subDifference_eq a b p.c
  have hresult := subBinary_toNat a b p
  refine ⟨?result, ?carry, subOverflow_eq hborrow hresult, rfl, rfl, rfl, rfl⟩
  case result =>
    change (subBinary a b p).1.toNat = _
    omega
  case carry =>
    rw [subBinary_carry, decide_eq_decide]
    omega

/-- Settles O31: the masked bytes are the high digits in place, and on decimal digits the sum goes digit by digit. -/
theorem decimalAddition : Obligations.DecimalAddition := by
  intro a b p r low al sum fixed signed
  have hsum : (a &&& 0xF0).toNat + (b &&& 0xF0).toNat + addDecimalLow a b p.c = sum := by
    rw [highDigit_toNat, highDigit_toNat]
    rfl
  refine ⟨?result, ?carry, rfl, rfl, rfl, rfl, rfl, addDecimal_bcd p⟩
  case result => simp only [r, addDecimal, hsum, BitVec.toNat_ofNat, fixed]
  case carry => simp only [r, addDecimal, Flags.setNZ, hsum, fixed]

/-- Settles O32: C and V are those of the same binary difference, and on decimal digits it goes digit by digit. -/
theorem decimalSubtraction : Obligations.DecimalSubtraction := by
  intro a b p r difference al fixed
  refine ⟨subDecimal_toNat a b p rfl rfl, ?carry, rfl, rfl, rfl, rfl, rfl, rfl, subDecimal_bcd p⟩
  case carry =>
    rw [subDecimal_carry, decide_eq_decide, subDifference]
    omega

end Sys2Proof.Proofs
end

section
/-! SUPPORT. Arithmetic, logic, compares and BIT: what each does with the byte it has read, the frame of a read with events
after its operand, and which instructions read through which mode (44_alu R305 to R314). -/

namespace Sys2Proof.Machine

open Sys2Proof.Claims

/-! ### What an operation does with the byte -/

theorem andWith_updates (v : Byte) : Updates (andWith v) fun r => { r with a := r.a &&& v, p := r.p.setNZ (r.a &&& v) } :=
  fun u => ⟨rfl, fun i => (Clock.of_setA i u _).setP _⟩

theorem oraWith_updates (v : Byte) : Updates (oraWith v) fun r => { r with a := r.a ||| v, p := r.p.setNZ (r.a ||| v) } :=
  fun u => ⟨rfl, fun i => (Clock.of_setA i u _).setP _⟩

theorem eorWith_updates (v : Byte) : Updates (eorWith v) fun r => { r with a := r.a ^^^ v, p := r.p.setNZ (r.a ^^^ v) } :=
  fun u => ⟨rfl, fun i => (Clock.of_setA i u _).setP _⟩

theorem cmpWith_updates (v : Byte) : Updates (cmpWith v) fun r => { r with p := r.p.compare r.a v } :=
  fun u => ⟨rfl, fun i => Clock.of_setP i u _⟩

theorem cpxWith_updates (v : Byte) : Updates (cpxWith v) fun r => { r with p := r.p.compare r.x v } :=
  fun u => ⟨rfl, fun i => Clock.of_setP i u _⟩

theorem cpyWith_updates (v : Byte) : Updates (cpyWith v) fun r => { r with p := r.p.compare r.y v } :=
  fun u => ⟨rfl, fun i => Clock.of_setP i u _⟩

theorem bitWith_updates (v : Byte) : Updates (bitWith v) fun r => { r with p := r.p.bitMemory r.a v } :=
  fun u => ⟨rfl, fun i => Clock.of_setP i u _⟩

theorem bitImmWith_updates (v : Byte) : Updates (bitImmWith v) fun r => { r with p := r.p.bitImmediate r.a v } :=
  fun u => ⟨rfl, fun i => Clock.of_setP i u _⟩

/-! ### The decimal cycle -/

/-- `f` makes the events that `more` gives for the flags, with I unchanged at each of them, and does `g` to the part of the
state an instruction can write. -/
def UpdatesAfter (more : Flags → List Event) (f : State → State) (g : Arch → Arch) : Prop :=
  ∀ u, (f u).arch = g u.arch ∧ Clock u.p.i u (f u) (more u.p)

/-- A read whose use of the byte makes events of its own completes after them. -/
theorem ReadsThrough.completes_after {i : Instr} {op : Byte} {m : Mode} {use : Byte → State → State}
    {more : Flags → List Event} {g : Byte → Arch → Arch} (h : ReadsThrough i op m use)
    (huse : ∀ v, UpdatesAfter more (use v) (g v)) (s : State) :
    Completes i op m s (m.readTrace (s.opcode op) ++ more s.p)
      (g (m.operandByte (s.opcode op)) (movedPast m s)) := by
  obtain ⟨hm, hexec⟩ := h
  obtain ⟨u, hrun, harch, hclock⟩ := readInstr_spec op m use s hm
  obtain ⟨huse_arch, huse_clock⟩ := huse (m.operandByte (s.opcode op)) u
  have hp : u.p = s.p := congrArg Arch.p harch
  rw [hp] at huse_clock
  refine completes_of_clock ((hexec s).trans hrun) (huse_arch.trans (congrArg _ harch)) ?_
  rw [← List.append_assoc]
  exact hclock.trans huse_clock

/-- The cycle that decimal mode adds to ADC and SBC (44_alu R306, R307). -/
def decimalTrace (p : Flags) : List Event := if p.d then [.idle] else []

/-- What an instruction writes that takes the result `r` into A and the flags. -/
def Arch.withResult (b : Arch) (r : Byte × Flags) : Arch := { b with a := r.1, p := r.2 }

/-- Decimal mode spends its cycle before the result `r` is applied to A and the flags (41_accessors R209). -/
theorem decimalCycle_updatesAfter (r : Byte → Flags → Byte × Flags) :
    UpdatesAfter decimalTrace (fun u => ((if u.p.d then u.idle else u).setA (r u.a u.p).1).setP (r u.a u.p).2)
      fun b => b.withResult (r b.a b.p) := by
  intro u
  by_cases hd : u.p.d = true
  case pos =>
    simp only [decimalTrace, hd, if_true]
    exact ⟨rfl, (u.idle_clock.setA _).setP _⟩
  case neg =>
    simp only [decimalTrace, hd]
    exact ⟨rfl, (Clock.of_setA _ u _).setP _⟩

theorem adcWith_updatesAfter (v : Byte) : UpdatesAfter decimalTrace (adcWith v)
    fun b => b.withResult (if b.p.d then addDecimal b.a v b.p else addBinary b.a v b.p) :=
  decimalCycle_updatesAfter fun a p => if p.d then addDecimal a v p else addBinary a v p

theorem sbcWith_updatesAfter (v : Byte) : UpdatesAfter decimalTrace (sbcWith v)
    fun b => b.withResult (if b.p.d then subDecimal b.a v b.p else subBinary b.a v b.p) :=
  decimalCycle_updatesAfter fun a p => if p.d then subDecimal a v p else subBinary a v p

/-! ### The instructions -/

theorem readsThrough_of_adcForm {i : Instr} {op : Byte} {m : Mode} (h : adcForm i = some (op, m)) :
    ReadsThrough i op m adcWith := by
  cases i with
  | adcImm v => cases h; exact ⟨.inr ⟨v, rfl⟩, fun _ => rfl⟩
  | adcZp | adcZpx | adcAbs | adcAbsx | adcAbsy | adcIzx | adcIzy | adcIzp => cases h; exact ⟨.inl rfl, fun _ => rfl⟩
  | _ => cases h

theorem readsThrough_of_sbcForm {i : Instr} {op : Byte} {m : Mode} (h : sbcForm i = some (op, m)) :
    ReadsThrough i op m sbcWith := by
  cases i with
  | sbcImm v => cases h; exact ⟨.inr ⟨v, rfl⟩, fun _ => rfl⟩
  | sbcZp | sbcZpx | sbcAbs | sbcAbsx | sbcAbsy | sbcIzx | sbcIzy | sbcIzp => cases h; exact ⟨.inl rfl, fun _ => rfl⟩
  | _ => cases h

theorem readsThrough_of_andForm {i : Instr} {op : Byte} {m : Mode} (h : andForm i = some (op, m)) :
    ReadsThrough i op m andWith := by
  cases i with
  | andImm v => cases h; exact ⟨.inr ⟨v, rfl⟩, fun _ => rfl⟩
  | andZp | andZpx | andAbs | andAbsx | andAbsy | andIzx | andIzy | andIzp => cases h; exact ⟨.inl rfl, fun _ => rfl⟩
  | _ => cases h

theorem readsThrough_of_oraForm {i : Instr} {op : Byte} {m : Mode} (h : oraForm i = some (op, m)) :
    ReadsThrough i op m oraWith := by
  cases i with
  | oraImm v => cases h; exact ⟨.inr ⟨v, rfl⟩, fun _ => rfl⟩
  | oraZp | oraZpx | oraAbs | oraAbsx | oraAbsy | oraIzx | oraIzy | oraIzp => cases h; exact ⟨.inl rfl, fun _ => rfl⟩
  | _ => cases h

theorem readsThrough_of_eorForm {i : Instr} {op : Byte} {m : Mode} (h : eorForm i = some (op, m)) :
    ReadsThrough i op m eorWith := by
  cases i with
  | eorImm v => cases h; exact ⟨.inr ⟨v, rfl⟩, fun _ => rfl⟩
  | eorZp | eorZpx | eorAbs | eorAbsx | eorAbsy | eorIzx | eorIzy | eorIzp => cases h; exact ⟨.inl rfl, fun _ => rfl⟩
  | _ => cases h

theorem readsThrough_of_cmpForm {i : Instr} {op : Byte} {m : Mode} (h : cmpForm i = some (op, m)) :
    ReadsThrough i op m cmpWith := by
  cases i with
  | cmpImm v => cases h; exact ⟨.inr ⟨v, rfl⟩, fun _ => rfl⟩
  | cmpZp | cmpZpx | cmpAbs | cmpAbsx | cmpAbsy | cmpIzx | cmpIzy | cmpIzp => cases h; exact ⟨.inl rfl, fun _ => rfl⟩
  | _ => cases h

theorem readsThrough_of_cpxForm {i : Instr} {op : Byte} {m : Mode} (h : cpxForm i = some (op, m)) :
    ReadsThrough i op m cpxWith := by
  cases i with
  | cpxImm v => cases h; exact ⟨.inr ⟨v, rfl⟩, fun _ => rfl⟩
  | cpxZp | cpxAbs => cases h; exact ⟨.inl rfl, fun _ => rfl⟩
  | _ => cases h

theorem readsThrough_of_cpyForm {i : Instr} {op : Byte} {m : Mode} (h : cpyForm i = some (op, m)) :
    ReadsThrough i op m cpyWith := by
  cases i with
  | cpyImm v => cases h; exact ⟨.inr ⟨v, rfl⟩, fun _ => rfl⟩
  | cpyZp | cpyAbs => cases h; exact ⟨.inl rfl, fun _ => rfl⟩
  | _ => cases h

theorem readsThrough_of_bitForm_memory {i : Instr} {op : Byte} {m : Mode} (h : bitForm i = some (op, m))
    (hm : ∀ w, m ≠ .imm w) : ReadsThrough i op m bitWith := by
  cases i with
  | bitImm v => cases h; exact absurd rfl (hm v)
  | bitZp | bitZpx | bitAbs | bitAbsx => cases h; exact ⟨.inl rfl, fun _ => rfl⟩
  | _ => cases h

theorem readsThrough_of_bitForm_immediate {i : Instr} {op : Byte} {m : Mode} (h : bitForm i = some (op, m))
    (hm : ∃ w, m = .imm w) : ReadsThrough i op m bitImmWith := by
  obtain ⟨w, rfl⟩ := hm
  cases i with
  | bitImm => cases h; exact ⟨.inr ⟨w, rfl⟩, fun _ => rfl⟩
  | _ => cases h

end Sys2Proof.Machine
end

section
/-! SUPPORT. The statements on arithmetic, logic, compares and BIT (44_alu R305 to R314). -/

namespace Sys2Proof.Proofs

open Sys2Proof Sys2Proof.Machine Sys2Proof.Claims

/-- Settles O36: ADC and SBC read their operand, spend the decimal cycle if D is set and then apply their result. -/
theorem addAndSubtractComplete : Obligations.AddAndSubtractComplete := by
  intro i op m s v events sum difference
  refine ⟨fun hadc => ?adc, fun hsbc => ?sbc⟩
  case adc => exact (readsThrough_of_adcForm hadc).completes_after adcWith_updatesAfter s
  case sbc => exact (readsThrough_of_sbcForm hsbc).completes_after sbcWith_updatesAfter s

/-- Settles O37: each reads its operand, which completes, and what it then does to A makes no event. -/
theorem logicCompletes : Obligations.LogicCompletes := by
  intro i op m s v after
  refine ⟨fun hand => ?and, fun hora => ?ora, fun heor => ?eor⟩
  case and => exact (readsThrough_of_andForm hand).completes andWith_updates s
  case ora => exact (readsThrough_of_oraForm hora).completes oraWith_updates s
  case eor => exact (readsThrough_of_eorForm heor).completes eorWith_updates s

/-- Settles O38: each reads its operand, which completes, and then changes flags only, with no event. BIT does so by one
function for memory and by another for the immediate form. -/
theorem comparesAndBitComplete : Obligations.ComparesAndBitComplete := by
  intro i op m s v events compared
  refine ⟨fun hcmp => ?cmp, fun hcpx => ?cpx, fun hcpy => ?cpy, fun hbit hm => ?memory, fun hbit hm => ?immediate⟩
  case cmp => exact (readsThrough_of_cmpForm hcmp).completes cmpWith_updates s
  case cpx => exact (readsThrough_of_cpxForm hcpx).completes cpxWith_updates s
  case cpy => exact (readsThrough_of_cpyForm hcpy).completes cpyWith_updates s
  case memory => exact (readsThrough_of_bitForm_memory hbit hm).completes bitWith_updates s
  case immediate => exact (readsThrough_of_bitForm_immediate hbit hm).completes bitImmWith_updates s

end Sys2Proof.Proofs
end

section
/-! SUPPORT. The read-modify-writes on memory and the steps of X and Y: the frame of each, what the functions of the
read-modify-write protocol compute, and which instructions run through which mode (45_rmw_bits R330 to R360). -/

namespace Sys2Proof.Machine

open Sys2Proof.Claims

/-! ### What the functions of the protocol compute -/

/-- The carry that enters at bit 0 (45_rmw_bits R333). -/
theorem carryIn_low (c : Bool) : (BitVec.ofBool c).setWidth 8 = if c then (0x01 : Byte) else 0x00 := by
  cases c <;> rfl

/-- The carry that enters at bit 7 (45_rmw_bits R334). -/
theorem carryIn_high (c : Bool) : (BitVec.ofBool c).setWidth 8 <<< 7 = if c then (0x80 : Byte) else 0x00 := by
  cases c <;> rfl

theorem rolByte_eq (v : Byte) (p : Flags) :
    rolByte v p =
      let r := (v <<< 1) ||| (if p.c then 0x01 else 0x00)
      (r, { p with c := v.getLsbD 7 }.setNZ r) := by
  rw [rolByte, carryIn_low]

theorem rorByte_eq (v : Byte) (p : Flags) :
    rorByte v p =
      let r := (v >>> 1) ||| (if p.c then 0x80 else 0x00)
      (r, { p with c := v.getLsbD 0 }.setNZ r) := by
  rw [rorByte, carryIn_high]

/-- The mask of bit `n` as a power of two (45_rmw_bits R343, R352). -/
theorem bitMask_eq (n : Nat) : (1 : Byte) <<< n = BitVec.ofNat 8 (2 ^ n) := by
  apply BitVec.eq_of_toNat_eq
  simp [Nat.one_shiftLeft]

theorem rmbByte_eq (n : Nat) (v : Byte) (p : Flags) :
    rmbByte n v p = (v &&& ~~~(BitVec.ofNat 8 (2 ^ n)), p) := by
  rw [rmbByte, bitMask_eq]

theorem smbByte_eq (n : Nat) (v : Byte) (p : Flags) : smbByte n v p = (v ||| BitVec.ofNat 8 (2 ^ n), p) := by
  rw [smbByte, bitMask_eq]

/-! ### The two frames -/

/-- `i` is a read-modify-write of opcode `op` through the memory mode `m`, by the function that `f` gives for the state
at the start of the step (41_accessors R203, R206). -/
def ModifiesThrough (i : Instr) (op : Byte) (m : Mode) (f : State → Byte → Flags → Byte × Flags) : Prop :=
  m.isMemory = true ∧ ∀ s, exec i s = rmwInstr op m (f s) s

/-- A read-modify-write completes after its three locked events, whose two writes change the byte behind the effective
address only; `g` is any other form of what `f` computes at the start of the step. -/
theorem ModifiesThrough.completes {i : Instr} {op : Byte} {m : Mode} {f : State → Byte → Flags → Byte × Flags}
    (h : ModifiesThrough i op m f) (s : State) {g : Byte → Flags → Byte × Flags} (hfg : ∀ v p, f s v p = g v p) :
    RmwCompletes i op m s g := by
  obtain ⟨hm, hexec⟩ := h
  obtain rfl : f s = g := funext fun v => funext (hfg v)
  obtain ⟨u, hrun, harch, hclock⟩ := rmwInstr_memory op m (f s) s hm
  exact ⟨completes_of_clock ((hexec s).trans hrun) harch hclock, s.bus.write_write_storedAt _ _ _⟩

/-- An instruction that only updates registers and flags after its fetch completes with no event of its own. -/
theorem completes_of_updates {i : Instr} {op : Byte} {m : Mode} {rest : State → State} {g : Arch → Arch} {s : State}
    (hexec : exec i s = plainInstr op m rest s) (hrest : Updates rest g) :
    Completes i op m s [] (g (movedPast m s)) := by
  obtain ⟨hrest_arch, hrest_clock⟩ := hrest (m.events (s.opcode op))
  exact completes_of_clock hexec (hrest_arch.trans (congrArg g (m.step_arch s op)))
    ((m.step_clock s op).trans (hrest_clock _))

/-! ### The steps of X and Y -/

/-- A step of X is a load of its next value (45_rmw_bits R337, R339). -/
theorem stepX_updates (next : Byte → Byte) :
    Updates (fun t => loadX (next t.x) t) fun r => { r with x := next r.x, p := r.p.setNZ (next r.x) } :=
  fun u => loadX_updates (next u.x) u

/-- A step of Y is a load of its next value (45_rmw_bits R338, R340). -/
theorem stepY_updates (next : Byte → Byte) :
    Updates (fun t => loadY (next t.y) t) fun r => { r with y := next r.y, p := r.p.setNZ (next r.y) } :=
  fun u => loadY_updates (next u.y) u

/-! ### The read-modify-write instructions -/

theorem modifiesThrough_of_aslForm {i : Instr} {op : Byte} {m : Mode} (h : aslForm i = some (op, m)) :
    ModifiesThrough i op m fun _ => aslByte := by
  cases i with
  | aslZp | aslZpx | aslAbs | aslAbsx => cases h; exact ⟨rfl, fun _ => rfl⟩
  | _ => cases h

theorem modifiesThrough_of_lsrForm {i : Instr} {op : Byte} {m : Mode} (h : lsrForm i = some (op, m)) :
    ModifiesThrough i op m fun _ => lsrByte := by
  cases i with
  | lsrZp | lsrZpx | lsrAbs | lsrAbsx => cases h; exact ⟨rfl, fun _ => rfl⟩
  | _ => cases h

theorem modifiesThrough_of_rolForm {i : Instr} {op : Byte} {m : Mode} (h : rolForm i = some (op, m)) :
    ModifiesThrough i op m fun _ => rolByte := by
  cases i with
  | rolZp | rolZpx | rolAbs | rolAbsx => cases h; exact ⟨rfl, fun _ => rfl⟩
  | _ => cases h

theorem modifiesThrough_of_rorForm {i : Instr} {op : Byte} {m : Mode} (h : rorForm i = some (op, m)) :
    ModifiesThrough i op m fun _ => rorByte := by
  cases i with
  | rorZp | rorZpx | rorAbs | rorAbsx => cases h; exact ⟨rfl, fun _ => rfl⟩
  | _ => cases h

theorem modifiesThrough_of_incForm {i : Instr} {op : Byte} {m : Mode} (h : incForm i = some (op, m)) :
    ModifiesThrough i op m fun _ => incByte := by
  cases i with
  | incZp | incZpx | incAbs | incAbsx => cases h; exact ⟨rfl, fun _ => rfl⟩
  | _ => cases h

theorem modifiesThrough_of_decForm {i : Instr} {op : Byte} {m : Mode} (h : decForm i = some (op, m)) :
    ModifiesThrough i op m fun _ => decByte := by
  cases i with
  | decZp | decZpx | decAbs | decAbsx => cases h; exact ⟨rfl, fun _ => rfl⟩
  | _ => cases h

theorem modifiesThrough_of_tsbForm {i : Instr} {op : Byte} {m : Mode} (h : tsbForm i = some (op, m)) :
    ModifiesThrough i op m fun s => tsbByte s.a := by
  cases i with
  | tsbZp | tsbAbs => cases h; exact ⟨rfl, fun _ => rfl⟩
  | _ => cases h

theorem modifiesThrough_of_trbForm {i : Instr} {op : Byte} {m : Mode} (h : trbForm i = some (op, m)) :
    ModifiesThrough i op m fun s => trbByte s.a := by
  cases i with
  | trbZp | trbAbs => cases h; exact ⟨rfl, fun _ => rfl⟩
  | _ => cases h

theorem modifiesThrough_of_rmbForm {i : Instr} {op : Byte} {m : Mode} {n : Nat} (h : rmbForm i = some (op, m, n)) :
    ModifiesThrough i op m fun _ => rmbByte n := by
  cases i with
  | rmb0 | rmb1 | rmb2 | rmb3 | rmb4 | rmb5 | rmb6 | rmb7 => cases h; exact ⟨rfl, fun _ => rfl⟩
  | _ => cases h

theorem modifiesThrough_of_smbForm {i : Instr} {op : Byte} {m : Mode} {n : Nat} (h : smbForm i = some (op, m, n)) :
    ModifiesThrough i op m fun _ => smbByte n := by
  cases i with
  | smb0 | smb1 | smb2 | smb3 | smb4 | smb5 | smb6 | smb7 => cases h; exact ⟨rfl, fun _ => rfl⟩
  | _ => cases h

end Sys2Proof.Machine
end

section
/-! SUPPORT. The statements on the memory read-modify-writes, RMBn and SMBn, and the steps of X and Y (45_rmw_bits R330
to R360). -/

namespace Sys2Proof.Proofs

open Sys2Proof Sys2Proof.Machine Sys2Proof.Claims

/-- Settles O39: each instruction runs the locked read, rewrite and write through its mode, by its own function of the
byte and the flags; TSB and TRB take A as it is at the start of the step. -/
theorem readModifyWriteCompletes : Obligations.ReadModifyWriteCompletes := by
  intro i op m s
  refine ⟨fun hasl => ?asl, fun hlsr => ?lsr, fun hrol => ?rol, fun hror => ?ror, fun hinc => ?inc, fun hdec => ?dec,
    fun htsb => ?tsb, fun htrb => ?trb⟩
  case asl => exact (modifiesThrough_of_aslForm hasl).completes s fun _ _ => rfl
  case lsr => exact (modifiesThrough_of_lsrForm hlsr).completes s fun _ _ => rfl
  case rol => exact (modifiesThrough_of_rolForm hrol).completes s rolByte_eq
  case ror => exact (modifiesThrough_of_rorForm hror).completes s rorByte_eq
  case inc => exact (modifiesThrough_of_incForm hinc).completes s fun _ _ => rfl
  case dec => exact (modifiesThrough_of_decForm hdec).completes s fun _ _ => rfl
  case tsb => exact (modifiesThrough_of_tsbForm htsb).completes s fun _ _ => rfl
  case trb => exact (modifiesThrough_of_trbForm htrb).completes s fun _ _ => rfl

/-- Settles O40: RMBn and SMBn are read-modify-writes that leave the flags alone, and their mask is bit `n`. -/
theorem bitResetAndSetComplete : Obligations.BitResetAndSetComplete := by
  intro i op m n s
  refine ⟨fun hrmb => ?rmb, fun hsmb => ?smb⟩
  case rmb => exact (modifiesThrough_of_rmbForm hrmb).completes s (rmbByte_eq n)
  case smb => exact (modifiesThrough_of_smbForm hsmb).completes s (smbByte_eq n)

/-- Settles O42: each loads its register with the next or the previous byte after its fetch, and makes no event of its
own. -/
theorem indexStepsComplete : Obligations.IndexStepsComplete := by
  intro s
  refine ⟨?inx, ?iny, ?dex, ?dey⟩
  case inx => exact completes_of_updates rfl (stepX_updates (· + 1))
  case iny => exact completes_of_updates rfl (stepY_updates (· + 1))
  case dex => exact completes_of_updates rfl (stepX_updates (· - 1))
  case dey => exact completes_of_updates rfl (stepY_updates (· - 1))

end Sys2Proof.Proofs
end

section
/-! SUPPORT. Transfers, stack and flag instructions: what each does after its fetch, and the frames of a push and of a pull
(46_transfer_stack_flags R380 to R401). -/

namespace Sys2Proof.Machine

open Sys2Proof.Claims

/-! ### Updates without an event -/

/-- An update that takes a register's byte as it finds it, not a byte fixed before. -/
theorem updates_of_register {use : Byte → State → State} {g : Byte → Arch → Arch} (huse : ∀ v, Updates (use v) (g v))
    (register : Arch → Byte) : Updates (fun u => use (register u.arch) u) fun r => g (register r) r :=
  fun u => huse (register u.arch) u

theorem setSp_updates (v : Byte) : Updates (fun u => u.setSp v) fun r => { r with sp := v } :=
  fun u => ⟨rfl, fun i => Clock.of_setSp i u v⟩

theorem setP_updates (f : Flags → Flags) : Updates (fun u => u.setP (f u.p)) fun r => { r with p := f r.p } :=
  fun u => ⟨rfl, fun i => Clock.of_setP i u (f u.p)⟩

theorem id_updates : Updates (fun u => u) fun r => r :=
  fun u => ⟨rfl, fun i => Clock.refl i u⟩

/-! ### The frames of a push and of a pull -/

/-- An instruction that pushes `source` after its fetch, where that is `v`, completes with that one write, which changes the
byte at the top of the stack only. -/
theorem pushCompletes_of_exec {i : Instr} {op v : Byte} {s : State} {source : State → Byte}
    (hsource : source (Mode.stk.events (s.opcode op)) = v)
    (hexec : exec i s = plainInstr op .stk (fun t => t.push (source t)) s) : PushCompletes i op s v := by
  have harch : ((Mode.stk.events (s.opcode op)).push v).arch = pushed .stk s v := by
    rw [State.push_arch, Mode.step_arch, Mode.step_bus, Mode.step_sp]
    rfl
  have hclock := (Mode.stk.step_clock s op).push (congrArg Flags.i (Mode.stk.step_p s op)) v
  rw [Mode.step_sp] at hclock
  rw [plainInstr_spec, hsource] at hexec
  exact ⟨completes_of_clock hexec harch hclock, s.bus.write_storedAt _ _⟩

/-- The byte pulled after the opcode event, the fetch and one idle cycle is the byte of event 4. -/
theorem pulled_after_idle (s : State) (op : Byte) : (Mode.stk.events (s.opcode op)).idle.pulled = pulledAt4 s := by
  have hclock := (Mode.stk.step_clock s op).idle (congrArg Flags.i (Mode.stk.step_p s op))
  have hbus : (Mode.stk.events (s.opcode op)).idle.bus = s.bus := Mode.stk.step_bus s op
  rw [State.pulled, State.readByte, hclock.byteAt hbus, State.idle_sp, Mode.step_sp]
  rfl

/-- An instruction that pulls a byte after its fetch and one idle cycle, and then uses it without an event, completes with
those two events. -/
theorem pullCompletes_of_exec {i : Instr} {op : Byte} {s : State} {use : Byte → State → State} {g : Byte → Arch → Arch}
    (huse : ∀ v, Updates (use v) (g v))
    (hexec : exec i s = plainInstr op .stk (fun t => use t.idle.pulled t.idle.pull) s) :
    Completes i op .stk s (pullTrace s) (g (pulledAt4 s) { movedPast .stk s with sp := s.sp + 1 }) := by
  have hi : (Mode.stk.events (s.opcode op)).p.i = s.p.i := congrArg Flags.i (Mode.stk.step_p s op)
  have harch : (Mode.stk.events (s.opcode op)).idle.pull.arch = { movedPast .stk s with sp := s.sp + 1 } := by
    rw [State.pull_arch, State.idle_arch, State.idle_sp, Mode.step_arch, Mode.step_sp]
    rfl
  have hclock := ((Mode.stk.step_clock s op).idle hi).pull hi
  rw [pulled_after_idle, State.idle_sp, Mode.step_sp, List.append_assoc] at hclock
  rw [plainInstr_spec, pulled_after_idle] at hexec
  obtain ⟨huse_arch, huse_clock⟩ := huse (pulledAt4 s) (Mode.stk.events (s.opcode op)).idle.pull
  exact completes_of_clock hexec (huse_arch.trans (congrArg _ harch)) (hclock.same (huse_clock _))

end Sys2Proof.Machine
end

section
/-! SUPPORT. The statements on the transfers, the stack and the flag instructions (46_transfer_stack_flags R380 to R401,
47_control_system R427). -/

namespace Sys2Proof.Proofs

open Sys2Proof Sys2Proof.Machine Sys2Proof.Claims

/-- Settles O43: each transfer loads its destination from its source after its fetch, TXS by writing S alone, and makes no
event of its own. -/
theorem transfersComplete : Obligations.TransfersComplete := by
  intro s
  refine ⟨?tax, ?tay, ?txa, ?tya, ?tsx, ?txs⟩
  case tax => exact completes_of_updates rfl (updates_of_register loadX_updates Arch.a)
  case tay => exact completes_of_updates rfl (updates_of_register loadY_updates Arch.a)
  case txa => exact completes_of_updates rfl (updates_of_register loadA_updates Arch.x)
  case tya => exact completes_of_updates rfl (updates_of_register loadA_updates Arch.y)
  case tsx => exact completes_of_updates rfl (updates_of_register loadX_updates Arch.sp)
  case txs => exact completes_of_updates rfl (updates_of_register setSp_updates Arch.x)

/-- Settles O44: each push runs the frame of a push; the fetch before it changes neither a register nor a flag, so the byte
is that of the start of the step. -/
theorem pushesComplete : Obligations.PushesComplete := by
  intro s
  refine ⟨?pha, ?php, ?phx, ?phy⟩
  case pha => exact pushCompletes_of_exec (source := State.a) (Mode.stk.step_a s _) rfl
  case php =>
    have hp := congrArg (Flags.toByte · true) (Mode.stk.step_p s 0x08)
    exact pushCompletes_of_exec (source := fun t => t.p.toByte true) hp rfl
  case phx => exact pushCompletes_of_exec (source := State.x) (Mode.stk.step_x s _) rfl
  case phy => exact pushCompletes_of_exec (source := State.y) (Mode.stk.step_y s _) rfl

/-- Settles O45: each pull runs the frame of a pull; PLA, PLX and PLY then load their register, PLP writes all flags. -/
theorem pullsComplete : Obligations.PullsComplete := by
  intro s v after
  refine ⟨?pla, ?plx, ?ply, ?plp⟩
  case pla => exact pullCompletes_of_exec loadA_updates rfl
  case plx => exact pullCompletes_of_exec loadX_updates rfl
  case ply => exact pullCompletes_of_exec loadY_updates rfl
  case plp => exact pullCompletes_of_exec (fun w => setP_updates fun _ => Flags.ofByte w) rfl

/-- Settles O46: each flag instruction writes its one flag after its fetch and NOP writes nothing, without an event of their
own, so every sample is taken with the I of the start of the step. -/
theorem flagInstructionsComplete : Obligations.FlagInstructionsComplete := by
  intro s
  refine ⟨?clc, ?sec, ?cli, ?sei, ?cld, ?sed, ?clv, ?nop⟩
  case clc => exact completes_of_updates rfl (setP_updates fun p => { p with c := false })
  case sec => exact completes_of_updates rfl (setP_updates fun p => { p with c := true })
  case cli => exact completes_of_updates rfl (setP_updates fun p => { p with i := false })
  case sei => exact completes_of_updates rfl (setP_updates fun p => { p with i := true })
  case cld => exact completes_of_updates rfl (setP_updates fun p => { p with d := false })
  case sed => exact completes_of_updates rfl (setP_updates fun p => { p with d := true })
  case clv => exact completes_of_updates rfl (setP_updates fun p => { p with v := false })
  case nop => exact completes_of_updates rfl id_updates

end Sys2Proof.Proofs
end

section
/-! SUPPORT. The control instructions: what the push of an address, a call, the two returns and BRK's exception do from any
state, and the frames of a jump, of an instruction with events of its own, and of one that changes I between its events
(47_control_system R420 to R424). -/

namespace Sys2Proof.Machine

open Sys2Proof.Claims

/-! ### Bytes and input levels after an event -/

@[simp] theorem State.idle_byteAt (s : State) (k : Nat) (a : Addr) : s.idle.byteAt k a = s.byteAt (k + 1) a :=
  s.idle_clock.byteAt rfl k a

@[simp] theorem State.pull_byteAt (s : State) (k : Nat) (a : Addr) : s.pull.byteAt k a = s.byteAt (k + 1) a :=
  s.pull_clock.byteAt rfl k a

@[simp] theorem State.setP_byteAt (s : State) (p : Flags) (k : Nat) (a : Addr) : (s.setP p).byteAt k a = s.byteAt k a :=
  (Clock.of_setP s.p.i s p).byteAt rfl k a

theorem State.pulled_eq_byteAt (s : State) : s.pulled = s.byteAt 1 (stackAddr (s.sp + 1)) := rfl

/-- A mode's fetch writes no byte, so a byte read after it is one of the start of the step, at the shifted event. -/
theorem Mode.step_byteAt (m : Mode) (s : State) (op : Byte) (k : Nat) (a : Addr) :
    (m.events (s.opcode op)).byteAt k a = s.byteAt (k + (m.stepTrace s op).length) a :=
  (m.step_clock s op).byteAt (m.step_bus s op) k a

theorem Mode.step_linesAt (m : Mode) (s : State) (op : Byte) (k : Nat) :
    (m.events (s.opcode op)).linesAt k = s.linesAt (k + (m.stepTrace s op).length) :=
  (m.step_clock s op).lines k

/-- A pointer's two bytes, seen from the start of the step. -/
theorem State.opcode_absPointer (s : State) (op : Byte) (k : Nat) (p : Addr) :
    (s.opcode op).absPointer k p = s.absPointer (k + 1) p := by
  simp only [State.absPointer, State.opcode_byteAt]

/-! ### Pushing an address -/

/-- The two pushes of a return address, high byte first (47_control_system R421, 60_exceptions R459). -/
def State.pushAddress (s : State) (ret : Addr) : State := (s.push (hiByte ret)).push (loByte ret)

/-- The bus after the two pushes. -/
def Bus.pushAddress (b : Bus) (sp : Byte) (ret : Addr) : Bus :=
  (b.write (stackAddr sp) (hiByte ret)).write (stackAddr (sp - 1)) (loByte ret)

/-- The two Write events. -/
def pushAddressTrace (sp : Byte) (ret : Addr) : List Event :=
  [.write .data (stackAddr sp) (hiByte ret), .write .data (stackAddr (sp - 1)) (loByte ret)]

theorem State.pushAddress_arch (s : State) (ret : Addr) :
    (s.pushAddress ret).arch = { s.arch with sp := s.sp - 2, bus := s.bus.pushAddress s.sp ret } := by
  simp [State.pushAddress, Bus.pushAddress]

theorem State.pushAddress_clock (s : State) (ret : Addr) :
    Clock s.p.i s (s.pushAddress ret) (pushAddressTrace s.sp ret) := (s.push_clock _).push rfl _

/-- The two pushes change the two bytes behind their addresses only. -/
theorem Bus.peek_pushAddress (b : Bus) (sp : Byte) (ret : Addr) {l : Loc} (hhi : b.locate (stackAddr sp) ≠ some l)
    (hlo : b.locate (stackAddr (sp - 1)) ≠ some l) : (b.pushAddress sp ret).peek l = b.peek l := by
  rw [Bus.pushAddress, Bus.peek_write_stack _ _ _ (by rwa [Bus.locate_write_stack]), Bus.peek_write_stack _ _ _ hhi]

/-- The frame of an exception changes the three bytes behind its addresses only. -/
theorem frameBus_frameOnly (b : Bus) (sp : Byte) (ret : Addr) (status : Byte) :
    FrameOnly b (frameBus b sp ret status) sp := by
  intro l hhi hlo hstatus
  have hpush : (b.pushAddress sp ret).locate (stackAddr (sp - 2)) ≠ some l := by
    rwa [Bus.pushAddress, Bus.locate_write_stack, Bus.locate_write_stack]
  exact (Bus.peek_write_stack _ _ status hpush).trans (b.peek_pushAddress sp ret hhi hlo)

/-! ### A call -/

/-- The high byte of a call's target, read from the bus that holds the return address (47_control_system R421). -/
def State.calledHigh (s : State) : Byte := (s.bus.pushAddress s.sp s.pc).read (s.linesAt 4) s.pc

theorem readByte_after_pushAddress (s : State) : (s.idle.pushAddress s.pc).readByte s.pc = s.calledHigh := by
  have hlines := (s.idle_clock.next rfl (s.idle.pushAddress_clock s.pc)).lines 1
  rw [State.readByte, State.byteAt, hlines]
  rfl

theorem callSubroutine_eq (lo : Byte) (s : State) :
    callSubroutine lo s
      = ((s.idle.pushAddress s.pc).readEvent .operand s.pc).setPc (joinBytes s.calledHigh lo) := by
  rw [← readByte_after_pushAddress]
  rfl

theorem callSubroutine_arch (lo : Byte) (s : State) :
    (callSubroutine lo s).arch
      = { s.arch with pc := joinBytes s.calledHigh lo, sp := s.sp - 2, bus := s.bus.pushAddress s.sp s.pc } := by
  rw [callSubroutine_eq, State.setPc_arch, State.readEvent_arch, State.pushAddress_arch]
  rfl

theorem callSubroutine_clock (lo : Byte) (s : State) :
    Clock s.p.i s (callSubroutine lo s) (.idle :: (pushAddressTrace s.sp s.pc ++ [.read .operand s.pc s.calledHigh])) := by
  have hread := (s.idle_clock.next rfl (s.idle.pushAddress_clock s.pc)).readEvent rfl .operand s.pc
  rw [readByte_after_pushAddress] at hread
  rw [callSubroutine_eq]
  exact hread.setPc _

/-! ### The two returns -/

theorem returnFromSubroutine_arch (s : State) :
    (returnFromSubroutine s).arch
      = { s.arch with
          pc := joinBytes (s.byteAt 3 (stackAddr (s.sp + 2))) (s.byteAt 2 (stackAddr (s.sp + 1))) + 1
          sp := s.sp + 2 } := by
  simp [returnFromSubroutine, State.pulled_eq_byteAt]

theorem returnFromSubroutine_clock (s : State) :
    Clock s.p.i s (returnFromSubroutine s)
      [.idle, .read .data (stackAddr (s.sp + 1)) (s.byteAt 2 (stackAddr (s.sp + 1))),
        .read .data (stackAddr (s.sp + 2)) (s.byteAt 3 (stackAddr (s.sp + 2))), .idle] := by
  have hpulls := (((s.idle_clock.pull rfl).pull rfl).idle rfl).setPc
    (joinBytes s.idle.pull.pulled s.idle.pulled + 1)
  simpa [returnFromSubroutine, State.pulled_eq_byteAt] using hpulls

/-- RTI's pulls are clocked with the I of the status byte they restore, the first of them too (41_accessors R210). -/
theorem State.returnFromException_clock (s : State) :
    Clock (Flags.ofByte (s.byteAt 1 (stackAddr (s.sp + 1)))).i s s.returnFromException
      [.read .data (stackAddr (s.sp + 1)) (s.byteAt 1 (stackAddr (s.sp + 1))),
        .read .data (stackAddr (s.sp + 2)) (s.byteAt 2 (stackAddr (s.sp + 2))),
        .read .data (stackAddr (s.sp + 3)) (s.byteAt 3 (stackAddr (s.sp + 3)))] := by
  have hstatus := Clock.of_setP (Flags.ofByte s.pulled).i s (Flags.ofByte s.pulled)
  have hpulls := (((hstatus.pull rfl).pull rfl).pull rfl).setPc
    (joinBytes (s.setP (Flags.ofByte s.pulled)).pull.pull.pulled (s.setP (Flags.ofByte s.pulled)).pull.pulled)
  simpa [State.returnFromException, State.pulled_eq_byteAt] using hpulls

/-! ### BRK's exception -/

theorem State.loadPc_clock (s : State) (vector : Addr) :
    Clock s.p.i s (s.loadPc vector)
      [.read .pointer vector (s.byteAt 1 vector), .read .pointer (vector + 1) (s.byteAt 2 (vector + 1))] := by
  have hlow := s.readEvent_clock .pointer vector
  have hreads := hlow.readEvent rfl .pointer (vector + 1)
  have hhigh : (s.readEvent .pointer vector).readByte (vector + 1) = s.byteAt 2 (vector + 1) := hlow.byteAt rfl 1 _
  rw [hhigh] at hreads
  exact hreads.setPc _

/-- BRK once it has pushed its return address and set I, before it pushes P. -/
def State.brkEntry (s : State) : State := (s.pushAddress s.pc).setP s.p.handlerEntry

theorem State.brkEntry_clock (s : State) : Clock s.p.i s s.brkEntry (pushAddressTrace s.sp s.pc) :=
  (s.pushAddress_clock s.pc).setP _

theorem State.brkEntry_sp (s : State) : s.brkEntry.sp = s.sp - 2 := congrArg Arch.sp (s.pushAddress_arch s.pc)

/-- BRK goes through 0xFFFE and clears no NMI edge, whether or not one is latched (60_exceptions R461). -/
theorem State.takeException_brk_eq (s : State) :
    (s.takeException true).2 = (s.brkEntry.push (s.p.toByte true)).loadPc 0xFFFE := by
  simp only [State.takeException, Bool.not_true, Bool.and_false, Bool.not_false, Bool.and_true]
  rfl

theorem State.exceptionVector_brk (s : State) : s.exceptionVector true = 0xFFFE := by
  simp [State.exceptionVector, State.takesNmi]

theorem State.takeException_brk_arch (s : State) :
    (s.takeException true).2.arch
      = { s.arch with
          pc := joinBytes ((frameBus s.bus s.sp s.pc (s.p.toByte true)).read (s.linesAt 5) 0xFFFF)
            ((frameBus s.bus s.sp s.pc (s.p.toByte true)).read (s.linesAt 4) 0xFFFE)
          sp := s.sp - 3
          bus := frameBus s.bus s.sp s.pc (s.p.toByte true)
          p := { s.p with i := true, d := false } } := by
  obtain ⟨-, harch, -⟩ := s.takeException_spec true
  rw [s.exceptionVector_brk] at harch
  exact harch

/-- The bytes that follow the push of P are read from the bus that holds the whole frame. -/
theorem State.byteAt_after_frame (s : State) (status : Byte) (k : Nat) (a : Addr) :
    (s.brkEntry.push status).byteAt k a = (frameBus s.bus s.sp s.pc status).read (s.linesAt (k + 3)) a := by
  rw [State.byteAt, State.push_linesAt, s.brkEntry_clock.lines, State.push_bus, s.brkEntry_sp]
  rfl

/-- BRK's push of P and its vector reads are clocked with I set (41_accessors R210). -/
theorem State.takeException_brk_clock (s : State) :
    Clock true s.brkEntry (s.takeException true).2
      [.write .data (stackAddr (s.sp - 2)) (s.p.toByte true),
        .read .pointer 0xFFFE ((frameBus s.bus s.sp s.pc (s.p.toByte true)).read (s.linesAt 4) 0xFFFE),
        .read .pointer 0xFFFF ((frameBus s.bus s.sp s.pc (s.p.toByte true)).read (s.linesAt 5) 0xFFFF)] := by
  have hevents := (s.brkEntry.push_clock (s.p.toByte true)).next rfl (State.loadPc_clock _ 0xFFFE)
  rw [← s.takeException_brk_eq, s.brkEntry_sp, s.byteAt_after_frame, s.byteAt_after_frame] at hevents
  exact hevents

/-! ### The frames -/

/-- A jump completes with no event after its fetch. -/
theorem completes_of_jumpInstr {i : Instr} {op : Byte} {m : Mode} {s : State} {ea : Addr}
    (hexec : exec i s = jumpInstr op m s) (haccessor : m.accessor (s.opcode op) = .addr ea) :
    Completes i op m s [] { s.arch with pc := ea } := by
  obtain ⟨u, hrun, harch, hclock⟩ := jumpInstr_spec op m s haccessor
  exact completes_of_clock (hexec.trans hrun) harch (by rwa [List.append_nil])

/-- An instruction that makes the events `more` after its fetch, with I as the fetch leaves it, completes with them. -/
theorem completes_of_plainInstr {i : Instr} {op : Byte} {m : Mode} {rest : State → State} {s : State} {more : List Event}
    {after : Arch} (hexec : exec i s = plainInstr op m rest s) (harch : (rest (m.events (s.opcode op))).arch = after)
    (hclock : Clock (m.events (s.opcode op)).p.i (m.events (s.opcode op)) (rest (m.events (s.opcode op))) more) :
    Completes i op m s more after :=
  completes_of_clock hexec harch ((m.step_clock s op).next (congrArg Flags.i (m.step_p s op)) hclock)

/-- The standard sample of a step that makes the events `e1` with I equal to `i` and then `e2` with I equal to `j`, at least
two of these: it falls among the latter and sees `j` (41_accessors R210, R214). -/
theorem Clock.standardSample_pending_of_later {i j : Bool} {s u v : State} {e1 e2 : List Event} (h1 : Clock i s u e1)
    (h2 : Clock j u v e2) (hs : s.samples = []) (hn : 2 ≤ e2.length) :
    v.standardSample.pending = (s.pending || s.sampleAfter j ((e1 ++ e2).length - 1)) := by
  have hsamples : v.samples = s.samplesOf i e1.length ++ u.samplesOf j e2.length := by
    rw [h2.samples, h1.samples, hs, List.nil_append]
  have hindex : max (e1.length + e2.length - 1) 1 - 1 - e1.length = e2.length - 1 - 1 := by omega
  have hevent : e2.length - 1 + e1.length = e1.length + e2.length - 1 := by omega
  simp only [State.standardSample, State.edgeCheck, State.setPending_pending, h2.pending, h1.pending, hsamples,
    List.length_append, State.samplesOf_length]
  rw [List.getD_append_right _ _ _ _ (by rw [State.samplesOf_length]; omega), State.samplesOf_length, hindex,
    State.samplesOf_getD u j (by omega) (by omega), h1.sampleAfter, hevent]

/-- An instruction step whose I changes from `i` to `j` between two of its events, at least two of them after the change. -/
theorem ran_of_clocks {op : Byte} {m : Mode} {i j : Bool} {s u v : State} {e1 e2 rest : List Event} {after : Arch}
    (h1 : Clock i (s.beginStep (.executed op)) u e1) (h2 : Clock j u v e2) (hn : 2 ≤ e2.length)
    (hevents : e1 ++ e2 = m.stepTrace s op ++ rest) (harch : v.arch = after) :
    Ran op m s v.standardSample rest after
      ∧ v.standardSample.pending = (s.pending || s.sampleAfter j ((e1 ++ e2).length - 1)) := by
  have htrace : v.trace = e1 ++ e2 := by rw [h2.trace, h1.trace]; rfl
  have hcycles : v.cycles = s.cycles + v.trace.length := by
    rw [h2.cycles, h1.cycles, htrace, List.length_append, Nat.add_assoc]
    rfl
  have hreports : v.reports = s.reports ++ reportsOf s.bus v.trace := by
    rw [h2.reports, h1.reports, reportsOf_congr h1.map, htrace, List.append_assoc, ← reportsOf_append]
    rfl
  have hpending := h1.standardSample_pending_of_later h2 rfl hn
  rw [State.beginStep_sampleAfter] at hpending
  exact ⟨⟨htrace.trans hevents, hcycles, hreports, h2.outcome.trans h1.outcome, harch⟩, hpending⟩

end Sys2Proof.Machine
end

section
/-! SUPPORT. The statements on the jumps, the call, the returns and BRK (47_control_system R420 to R424). -/

namespace Sys2Proof.Proofs

open Sys2Proof Sys2Proof.Machine Sys2Proof.Claims

/-- Settles O50: each jump runs the jump frame; its pointer, if it has one, is read by events 5 and 6. -/
theorem jumpsComplete : Obligations.JumpsComplete := by
  intro s a
  refine ⟨?abs, ?ind, ?iax⟩
  case abs => exact completes_of_jumpInstr rfl rfl
  case ind =>
    exact completes_of_jumpInstr rfl (congrArg Accessor.addr (s.opcode_absPointer 0x6C 4 a))
  case iax =>
    exact completes_of_jumpInstr rfl (congrArg Accessor.addr (s.opcode_absPointer 0x7C 4 (a + zext16 s.x)))

/-- Settles O51: after its fetch JSR runs the call, whose two pushes change their two bytes only. -/
theorem jsrCompletes : Obligations.JsrCompletes := by
  intro s a ret bus hi
  have hhigh : ((Mode.jsr (loByte a)).events (s.opcode 0x20)).calledHigh = hi := by
    rw [State.calledHigh, Mode.step_linesAt, Mode.step_bus, Mode.step_sp, Mode.step_pc]
    rfl
  refine ⟨?_, fun l => s.bus.peek_pushAddress s.sp ret⟩
  have harch := callSubroutine_arch (loByte a) ((Mode.jsr (loByte a)).events (s.opcode 0x20))
  have hclock := callSubroutine_clock (loByte a) ((Mode.jsr (loByte a)).events (s.opcode 0x20))
  rw [hhigh, Mode.step_sp, Mode.step_pc] at harch hclock
  rw [Mode.step_arch, Mode.step_bus] at harch
  exact completes_of_plainInstr rfl harch hclock

/-- Settles O52: after its fetch RTS runs the return, whose pulls are events 4 and 5. -/
theorem rtsCompletes : Obligations.RtsCompletes := by
  intro s lo hi
  have harch := returnFromSubroutine_arch (Mode.stk.events (s.opcode 0x60))
  have hclock := returnFromSubroutine_clock (Mode.stk.events (s.opcode 0x60))
  rw [Mode.step_sp, Mode.step_byteAt, Mode.step_byteAt] at harch hclock
  rw [Mode.step_arch] at harch
  exact completes_of_plainInstr rfl harch hclock

/-- Settles O53: RTI's three pulls follow its fetch and one idle cycle; I changes at the first of them, so the sample of
event 5 sees the restored I. -/
theorem rtiCompletes : Obligations.RtiCompletes := by
  intro s status lo hi
  have hbefore := (Mode.stk.step_clock s 0x40).idle (congrArg Flags.i (Mode.stk.step_p s 0x40))
  have hpulls := State.returnFromException_clock (Mode.stk.events (s.opcode 0x40)).idle
  obtain ⟨harch, -⟩ := State.returnFromException_spec (Mode.stk.events (s.opcode 0x40)).idle
  simp only [State.idle_byteAt, State.idle_sp, State.idle_arch, Mode.step_byteAt, Mode.step_sp, Mode.step_arch]
    at hpulls harch
  exact ⟨_, rfl, ran_of_clocks hbefore hpulls (by decide : 2 ≤ 3) rfl harch⟩

/-- Settles O54: BRK takes its exception after its fetch; I is set from its push of P on, so the sample of event 6 sees only
an NMI edge. -/
theorem brkCompletes : Obligations.BrkCompletes := by
  intro s sig ret status bus lo hi
  refine ⟨?_, frameBus_frameOnly s.bus s.sp ret status⟩
  have hbefore := (Mode.step_clock (.brk sig) s 0x00).next (congrArg Flags.i (Mode.step_p (.brk sig) s 0x00))
    (State.brkEntry_clock ((Mode.brk sig).events (s.opcode 0x00)))
  have hafter := State.takeException_brk_clock ((Mode.brk sig).events (s.opcode 0x00))
  have harch := State.takeException_brk_arch ((Mode.brk sig).events (s.opcode 0x00))
  simp only [Mode.step_arch, Mode.step_bus, Mode.step_sp, Mode.step_pc, Mode.step_p, Mode.step_linesAt]
    at hbefore hafter harch
  obtain ⟨hran, hpending⟩ := ran_of_clocks (m := .brk sig) hbefore hafter (by decide : 2 ≤ 3)
    (List.append_assoc _ _ _) harch
  have hmasked : s.sampleAfter true 6 = s.edgeAfter 6 := by simp [State.sampleAfter]
  exact ⟨_, rfl, hran, hpending.trans (congrArg _ hmasked)⟩

end Sys2Proof.Proofs
end

section
/-! SUPPORT. Interrupt entry from the state its two idle cycles reach: what it keeps of the start of the step, and the
NMI latches after the five events of the exception (60_exceptions R459 to R462). -/

namespace Sys2Proof.Machine

open Sys2Proof.Claims

/-! ### The NMI latches -/

@[simp] theorem State.setPending_prevAfter (s : State) (v : Bool) (k : Nat) :
    (s.setPending v).prevAfter k = s.prevAfter k := by
  cases k <;> rfl

@[simp] theorem State.setPending_edgeAfter (s : State) (v : Bool) (k : Nat) :
    (s.setPending v).edgeAfter k = s.edgeAfter k := by
  induction k with
  | zero => rfl
  | succ k ih => simp only [State.edgeAfter, ih, State.setPending_prevAfter, State.setPending_linesAt]

/-- The last NMI level of an exception is that of its fifth event, the second of the vector reads. -/
theorem State.takeException_nmiPrev (s : State) (brk : Bool) :
    (s.takeException brk).2.nmiPrev = (s.linesAt 5).nmi := by
  rw [State.takeException, (State.loadPc_clock _ _).prev]
  simp [State.prevAfter]

/-- An exception that is no BRK goes through the NMI vector exactly when an edge is latched by its second event. -/
theorem State.takesNmi_interrupt (s : State) : s.takesNmi false = s.edgeAfter 2 := Bool.and_true _

/-- An interrupt uses up every edge latched by its choice of the vector; those of its last three events stay. -/
theorem State.takeException_interrupt_nmiEdge (s : State) :
    (s.takeException false).2.nmiEdge = (((s.linesAt 3).nmi && !(s.linesAt 2).nmi)
      || ((s.linesAt 4).nmi && !(s.linesAt 3).nmi) || ((s.linesAt 5).nmi && !(s.linesAt 4).nmi)) := by
  rw [s.takeException_nmiEdge, s.takesNmi_interrupt, Bool.and_not_self, Bool.false_or]

/-! ### Before the exception -/

/-- Interrupt entry once it has cleared `pending` and `waiting` and made its two idle cycles. -/
def State.interruptIdled (s : State) : State :=
  (((s.beginStep (.interrupt 0xFFFE)).setPending false).setWaiting false).idle.idle

theorem State.interruptEntry_eq (s : State) :
    s.interruptEntry
      = (s.interruptIdled.takeException false).2.setOutcome (.interrupt (s.interruptIdled.takeException false).1) := rfl

theorem State.interruptIdled_clock (s : State) :
    Clock s.p.i ((s.beginStep (.interrupt 0xFFFE)).setPending false) s.interruptIdled [.idle, .idle] :=
  ((Clock.of_setWaiting s.p.i ((s.beginStep (.interrupt 0xFFFE)).setPending false) false).idle rfl).idle rfl

theorem State.interruptIdled_arch (s : State) : s.interruptIdled.arch = { s.arch with waiting := false } := rfl

theorem State.interruptIdled_linesAt (s : State) (k : Nat) : s.interruptIdled.linesAt k = s.linesAt (k + 2) :=
  s.interruptIdled_clock.lines k

theorem State.interruptIdled_edgeAfter (s : State) (k : Nat) : s.interruptIdled.edgeAfter k = s.edgeAfter (k + 2) := by
  rw [s.interruptIdled_clock.edgeAfter, State.setPending_edgeAfter, State.beginStep_edgeAfter]
  rfl

/-! ### The whole entry -/

/-- The vector of interrupt entry is chosen by the edges latched by event 4 of the step (60_exceptions R461). -/
def State.interruptVector (s : State) : Addr := if s.edgeAfter 4 then 0xFFFA else 0xFFFE

theorem State.interruptIdled_exceptionVector (s : State) :
    s.interruptIdled.exceptionVector false = s.interruptVector := by
  rw [State.exceptionVector, State.takesNmi_interrupt, s.interruptIdled_edgeAfter]
  rfl

/-- The bus interrupt entry leaves (60_exceptions R459). -/
def State.interruptBus (s : State) : Bus := frameBus s.bus s.sp s.pc (s.p.toByte false)

theorem State.interruptIdled_pushFrame (s : State) :
    s.interruptIdled.bus.pushFrame s.interruptIdled.sp s.interruptIdled.pc (s.interruptIdled.p.toByte false)
      = s.interruptBus := rfl

/-- The low byte at the vector, which event 6 reads from the bus that holds the frame (60_exceptions R460). -/
def State.interruptLow (s : State) : Byte := s.interruptBus.read (s.linesAt 6) s.interruptVector

/-- The high byte, which event 7 reads. -/
def State.interruptHigh (s : State) : Byte := s.interruptBus.read (s.linesAt 7) (s.interruptVector + 1)

theorem State.interruptEntry_arch (s : State) :
    s.interruptEntry.arch = { s.arch with
      pc := joinBytes s.interruptHigh s.interruptLow, sp := s.sp - 3, bus := s.interruptBus, waiting := false
      p := { s.p with i := true, d := false } } := by
  obtain ⟨-, harch, -⟩ := s.interruptIdled.takeException_spec false
  rw [s.interruptIdled_exceptionVector, s.interruptIdled_pushFrame, s.interruptIdled_linesAt,
    s.interruptIdled_linesAt] at harch
  rw [s.interruptEntry_eq, State.setOutcome_arch, harch, s.interruptIdled_arch]
  rfl

theorem State.interruptEntry_trace (s : State) :
    s.interruptEntry.trace = [.idle, .idle] ++ frameTrace s.sp s.pc (s.p.toByte false)
      ++ [.read .pointer s.interruptVector s.interruptLow, .read .pointer (s.interruptVector + 1) s.interruptHigh] := by
  obtain ⟨-, -, htrace, -⟩ := s.interruptIdled.takeException_spec false
  rw [s.interruptIdled_exceptionVector, s.interruptIdled_pushFrame, s.interruptIdled_linesAt,
    s.interruptIdled_linesAt] at htrace
  exact htrace

theorem State.interruptEntry_clocks (s : State) :
    s.interruptEntry.cycles = s.cycles + 7 ∧ s.interruptEntry.pending = false
      ∧ s.interruptEntry.outcome = .interrupt s.interruptVector := by
  obtain ⟨hvector, -, -, hcycles, hpending, -⟩ := s.interruptIdled.takeException_spec false
  rw [s.interruptIdled_exceptionVector] at hvector
  exact ⟨hcycles, hpending, congrArg StepOutcome.interrupt hvector⟩

theorem State.interruptEntry_nmiEdge (s : State) :
    s.interruptEntry.nmiEdge = (((s.linesAt 5).nmi && !(s.linesAt 4).nmi) || ((s.linesAt 6).nmi && !(s.linesAt 5).nmi)
      || ((s.linesAt 7).nmi && !(s.linesAt 6).nmi)) := by
  rw [s.interruptEntry_eq, State.setOutcome_nmiEdge, State.takeException_interrupt_nmiEdge]
  simp only [State.interruptIdled_linesAt]

theorem State.interruptEntry_nmiPrev (s : State) : s.interruptEntry.nmiPrev = s.prevAfter 7 := by
  rw [s.interruptEntry_eq, State.setOutcome_nmiPrev, State.takeException_nmiPrev, s.interruptIdled_linesAt]
  rfl

end Sys2Proof.Machine
end

section
/-! SUPPORT. The statement on interrupt entry (60_exceptions R459). -/

namespace Sys2Proof.Proofs

open Sys2Proof Sys2Proof.Machine Sys2Proof.Claims

/-- Settles O57: after its two idle cycles interrupt entry takes an exception that is no BRK, whose pushes change their three
bytes only and whose second event is event 4 of the step. -/
theorem interruptEntry : Obligations.InterruptEntry := by
  intro s
  obtain ⟨hcycles, hpending, houtcome⟩ := s.interruptEntry_clocks
  exact ⟨s.interruptEntry_arch, s.interruptEntry_trace, hcycles, s.interruptEntry_reports, hpending, houtcome,
    s.interruptEntry_nmiEdge, s.interruptEntry_nmiPrev, frameBus_frameOnly s.bus s.sp s.pc _⟩

end Sys2Proof.Proofs
end

section
/-! SUPPORT. The reset step: the latches and run state it sets before its seven events (70_reset R500). -/

namespace Sys2Proof.Machine

/-- The start of a reset step: its record is empty and its interrupt latches are clear, which its events then move on. -/
def State.resetLatched (s : State) : State :=
  (((s.setNmiEdge false).setNmiPrev false).setPending false).beginStep .reset

/-- The reset step once it has set the run state and the flags, before its first event. -/
def State.resetCleared (s : State) : State :=
  { s.beginStep .reset with
    pending := false
    nmiEdge := false
    nmiPrev := false
    waiting := false
    stopped := false
    resetRequest := false
    p := s.p.afterReset }

theorem State.resetStep_eq (s : State) :
    s.resetStep = s.resetCleared.idle.idle.idle.idle.idle.loadPc 0xFFFC := rfl

theorem State.resetLatched_edgeAfter (s : State) (k : Nat) :
    s.resetLatched.edgeAfter k = ((s.setNmiEdge false).setNmiPrev false).edgeAfter k := by
  rw [State.resetLatched, State.beginStep_edgeAfter, State.setPending_edgeAfter]

theorem State.resetCleared_clock (s : State) : Clock true s.resetLatched s.resetCleared [] := by
  apply Clock.of_same <;> intros <;> rfl

theorem State.resetCleared_byteAt (s : State) (k : Nat) (a : Addr) : s.resetCleared.byteAt k a = s.byteAt k a := rfl

/-- The reset step makes five idle cycles and reads its vector; it writes no byte, so the two bytes are those of the start of
the step. -/
theorem State.resetStep_clock (s : State) :
    Clock true s.resetLatched s.resetStep
      [.idle, .idle, .idle, .idle, .idle, .read .pointer 0xFFFC (s.byteAt 6 0xFFFC),
        .read .pointer 0xFFFD (s.byteAt 7 0xFFFD)] := by
  have hidles := ((((s.resetCleared_clock.idle rfl).idle rfl).idle rfl).idle rfl).idle rfl
  have hreads := hidles.next rfl (State.loadPc_clock _ 0xFFFC)
  simp only [State.idle_byteAt, State.resetCleared_byteAt] at hreads
  exact hreads

theorem State.loadPc_arch (s : State) (vector : Addr) :
    (s.loadPc vector).arch
      = { s.arch with pc := joinBytes (s.byteAt 2 (vector + 1)) (s.byteAt 1 vector) } := by
  have hhigh : (s.readEvent .pointer vector).readByte (vector + 1) = s.byteAt 2 (vector + 1) :=
    (s.readEvent_clock .pointer vector).byteAt rfl 1 _
  simp only [State.loadPc, State.setPc_arch, State.readEvent_arch, hhigh]
  rfl

theorem State.resetCleared_arch (s : State) :
    s.resetCleared.arch = { s.arch with
      waiting := false, stopped := false, resetRequest := false, p := { s.p with i := true, d := false } } := rfl

theorem State.resetStep_arch (s : State) :
    s.resetStep.arch = { s.arch with
      pc := joinBytes (s.byteAt 7 0xFFFD) (s.byteAt 6 0xFFFC), waiting := false, stopped := false, resetRequest := false
      p := { s.p with i := true, d := false } } := by
  rw [s.resetStep_eq, State.loadPc_arch]
  simp only [State.idle_byteAt, State.idle_arch, State.resetCleared_byteAt, State.resetCleared_arch]
  rfl

end Sys2Proof.Machine
end

section
/-! SUPPORT. The statement on the reset step (70_reset R500). -/

namespace Sys2Proof.Proofs

open Sys2Proof Sys2Proof.Machine

/-- Settles O59: the events of the reset step are clocked from the state whose latches it has cleared. -/
theorem resetStep : Obligations.ResetStep := by
  intro s t lo hi
  have hclock := s.resetStep_clock
  exact ⟨s.resetStep_arch, hclock.trace, hclock.cycles, s.resetStep_reports, hclock.pending, hclock.outcome,
    hclock.edge.trans (s.resetLatched_edgeAfter 7), hclock.prev⟩

end Sys2Proof.Proofs
end

section
/-! SUPPORT. The bank-select sequence: what one write to the output register does to the shift register and the bank, and
what a run of shifted bits leaves (20_memory R83, 70_reset R504). -/

namespace Sys2Proof.Machine

open Sys2Proof.Claims

/-! ### One write to the output register -/

/-- A bit that is low has not risen. -/
theorem rose_of_low {new : Byte} {i : Nat} (old : Byte) (hnew : new.getLsbD i = false) :
    (new &&& ~~~old).getLsbD i = false := by
  rw [BitVec.getLsbD_and, hnew, Bool.false_and]

theorem rose_of_rise {new old : Byte} {i : Nat} (hnew : new.getLsbD i = true) (hold : old.getLsbD i = false) :
    (new &&& ~~~old).getLsbD i = true := by
  rw [BitVec.getLsbD_and, BitVec.getLsbD_not, hnew, hold, decide_eq_true (BitVec.lt_of_getLsbD hnew)]
  rfl

section DefaultMap
variable {b : Bus} (hmap : b.map = defaultBusMap)
include hmap

theorem Bus.write_outputRegister (new : Byte) :
    let edge := new &&& ~~~(b.via.get 1)
    let sr := if edge.getLsbD 0 then (b.sr <<< 1) ||| (if new.getLsbD 1 then 1 else 0) else b.sr
    b.write 0x2801 new
      = { b with sr := sr, cartBank := (if edge.getLsbD 2 then sr.setWidth 7 else b.cartBank), via := b.via.set 1 new } :=
  (Bus.write_of_locate_via b.locate_outputRegister new).trans (Bus.viaWrite_outputRegister_default hmap new)

theorem Bus.write_outputRegister_get (new : Byte) : (b.write 0x2801 new).via.get 1 = new := by
  rw [Bus.write_outputRegister hmap]
  exact Vector.getElem_set_self _

/-- With the clock bit low nothing is shifted. -/
theorem Bus.write_outputRegister_sr_of_low {new : Byte} (hclock : new.getLsbD 0 = false) :
    (b.write 0x2801 new).sr = b.sr := by
  simp only [congrArg Bus.sr (Bus.write_outputRegister hmap new), rose_of_low _ hclock]
  rfl

/-- When the clock bit rises the data bit is shifted in. -/
theorem Bus.write_outputRegister_sr_of_rise {new : Byte} (hclock : new.getLsbD 0 = true)
    (hold : (b.via.get 1).getLsbD 0 = false) :
    (b.write 0x2801 new).sr = (b.sr <<< 1) ||| (if new.getLsbD 1 then 1 else 0) := by
  simp only [congrArg Bus.sr (Bus.write_outputRegister hmap new), rose_of_rise hclock hold, if_true]

/-- When the latch bit rises the bank is the low seven bits of the shift register. -/
theorem Bus.write_outputRegister_cartBank_of_rise {new : Byte} (hlatch : new.getLsbD 2 = true)
    (hold : (b.via.get 1).getLsbD 2 = false) :
    (b.write 0x2801 new).cartBank = (b.write 0x2801 new).sr.setWidth 7 := by
  simp only [Bus.write_outputRegister hmap new, rose_of_rise hlatch hold, if_true]

end DefaultMap

/-! ### The sequence -/

/-- The writes of a byte list to the output register, in order. -/
def Bus.writeOutputs (b : Bus) (vs : List Byte) : Bus := vs.foldl (fun c v => c.write 0x2801 v) b

theorem Bus.writeOutputs_cons (b : Bus) (v : Byte) (vs : List Byte) :
    b.writeOutputs (v :: vs) = (b.write 0x2801 v).writeOutputs vs := by
  simp only [Bus.writeOutputs, List.foldl_cons]

theorem Bus.writeOutputs_map (b : Bus) (vs : List Byte) : (b.writeOutputs vs).map = b.map := by
  induction vs generalizing b with
  | nil => rfl
  | cons v vs ih => rw [Bus.writeOutputs_cons, ih, Bus.write_map]

theorem Bus.writeOutputs_append (b : Bus) (vs ws : List Byte) :
    b.writeOutputs (vs ++ ws) = (b.writeOutputs vs).writeOutputs ws := List.foldl_append

/-- Bit `i` of a bank number, as the byte the sequence is made from (70_reset R504). -/
def selectBit (n : BitVec 7) (i : Nat) : Byte := (n.extractLsb' i 1).setWidth 8

/-- The two writes of one bit: the data bit with the clock bit low, then with the clock bit high. -/
def bitWrites (d : Byte) : List Byte := [d <<< 1, (d <<< 1) ||| 0x01]

/-- The writes of one bit shift it in, whatever the output register held. -/
theorem Bus.writeOutputs_bitWrites_sr {b : Bus} (hmap : b.map = defaultBusMap) (n : BitVec 7) (i : Nat) :
    (b.writeOutputs (bitWrites (selectBit n i))).sr = (b.sr <<< 1) ||| selectBit n i := by
  have hbit : selectBit n i = if n.getLsbD i then 1 else 0 := extractLsb'_one_setWidth n i
  generalize selectBit n i = d at hbit
  have hlow : (d <<< 1).getLsbD 0 = false := by simp
  have hhigh : ((d <<< 1) ||| 0x01).getLsbD 0 = true := by simp
  have hdata : (if ((d <<< 1) ||| 0x01).getLsbD 1 then (1 : Byte) else 0) = d := by
    rw [hbit]; cases n.getLsbD i <;> rfl
  have hmap' : (b.write 0x2801 (d <<< 1)).map = defaultBusMap := (b.write_map _ _).trans hmap
  have hold : ((b.write 0x2801 (d <<< 1)).via.get 1).getLsbD 0 = false := by
    rw [Bus.write_outputRegister_get hmap, hlow]
  calc ((b.write 0x2801 (d <<< 1)).write 0x2801 ((d <<< 1) ||| 0x01)).sr
      = ((b.write 0x2801 (d <<< 1)).sr <<< 1) ||| d := by
        rw [Bus.write_outputRegister_sr_of_rise hmap' hhigh hold, hdata]
    _ = (b.sr <<< 1) ||| d := by rw [Bus.write_outputRegister_sr_of_low hmap hlow]

/-- The shift register after the bits `is` of `n`, the first of them shifted in first. -/
def shiftedIn (n : BitVec 7) (sr : Byte) (is : List Nat) : Byte := is.foldl (fun r i => (r <<< 1) ||| selectBit n i) sr

theorem Bus.writeOutputs_bits_sr {b : Bus} (hmap : b.map = defaultBusMap) (n : BitVec 7) (is : List Nat) :
    (b.writeOutputs (is.flatMap fun i => bitWrites (selectBit n i))).sr = shiftedIn n b.sr is := by
  induction is generalizing b with
  | nil => rfl
  | cons i is ih =>
    rw [List.flatMap_cons, Bus.writeOutputs_append, ih ((b.writeOutputs_map _).trans hmap),
      Bus.writeOutputs_bitWrites_sr hmap]
    rfl

/-- The first fourteen writes of the sequence: the seven bits, most significant first. -/
def shiftWrites (n : BitVec 7) : List Byte := [6, 5, 4, 3, 2, 1, 0].flatMap fun i => bitWrites (selectBit n i)

theorem selectWrites_eq (n : BitVec 7) : selectWrites n = shiftWrites n ++ [0x00, 0x04] := rfl

/-- Seven shifts fill the low seven bits; what was there before has left them (70_reset R504). -/
theorem shiftedIn_setWidth (n : BitVec 7) (sr : Byte) : (shiftedIn n sr [6, 5, 4, 3, 2, 1, 0]).setWidth 7 = n := by
  ext j hj
  simp only [shiftedIn, selectBit, List.foldl]
  interval_cases j <;> simp

/-- The last two writes latch the shift register, whatever the output register held. -/
theorem Bus.writeOutputs_latch_cartBank {b : Bus} (hmap : b.map = defaultBusMap) :
    (b.writeOutputs [0x00, 0x04]).cartBank = b.sr.setWidth 7 := by
  have hmap' : (b.write 0x2801 0x00).map = defaultBusMap := (b.write_map _ _).trans hmap
  have hold : ((b.write 0x2801 0x00).via.get 1).getLsbD 2 = false := by
    rw [Bus.write_outputRegister_get hmap]; rfl
  calc ((b.write 0x2801 0x00).write 0x2801 0x04).cartBank
      = ((b.write 0x2801 0x00).write 0x2801 0x04).sr.setWidth 7 :=
        Bus.write_outputRegister_cartBank_of_rise hmap' rfl hold
    _ = b.sr.setWidth 7 := by
        rw [Bus.write_outputRegister_sr_of_low hmap' rfl, Bus.write_outputRegister_sr_of_low hmap rfl]

end Sys2Proof.Machine
end

section
/-! SUPPORT. The statement on the bank-select sequence (70_reset R504). -/

namespace Sys2Proof.Proofs

open Sys2Proof Sys2Proof.Machine Sys2Proof.Claims

/-- Settles O22: the first fourteen writes shift the seven bits in, the last two latch them. -/
theorem bankSelectSequenceSelects : Obligations.BankSelectSequenceSelects := by
  intro b n hmap
  have hmap' := (b.writeOutputs_map (shiftWrites n)).trans hmap
  calc (b.writeOutputs (selectWrites n)).cartBank
      = (b.writeOutputs (shiftWrites n)).sr.setWidth 7 := by
        rw [selectWrites_eq, Bus.writeOutputs_append, Bus.writeOutputs_latch_cartBank hmap']
    _ = n := by rw [shiftWrites, Bus.writeOutputs_bits_sr hmap, shiftedIn_setWidth]

end Sys2Proof.Proofs
end

section
/-! SUPPORT. Counting the events of a step: how many a mode's fetch makes, and how the events an instruction completes with
add up to the timing table (70_reset R520). -/

namespace Sys2Proof.Machine

open Sys2Proof.Claims

/-! ### The events of a fetch -/

/-- The events of a mode's fetch but for the index cycle of a fast variant (40_addressing R163 to R181). -/
def Mode.fetchCycles (m : Mode) : Nat :=
  match m with
  | .nop1 => 0
  | .imp | .acc | .stk | .imm _ | .zp _ | .rel _ | .jsr _ | .brk _ => 1
  | .zpx _ | .zpy _ | .abs _ => 2
  | .absx _ slow | .absy _ slow => 2 + bitNat slow
  | .izp _ => 3
  | .izy _ slow => 3 + bitNat slow
  | .izx _ | .zpr _ _ => 4
  | .ind _ | .iax _ => 5

/-- The index cycle of a fast variant, spent on a page crossing (40_addressing R162). -/
def Mode.crossCycles (m : Mode) (s : State) : Nat :=
  match m with
  | .absx _ false | .absy _ false | .izy _ false => bitNat (pageCrossed (m.base s) (m.address s))
  | _ => 0

theorem indexTrace_fast_length (crossed : Bool) : (indexTrace false crossed).length = bitNat crossed := by
  cases crossed <;> rfl

theorem Mode.fetchTrace_length (m : Mode) (s : State) :
    (m.fetchTrace s).length = m.fetchCycles + m.crossCycles s := by
  cases m with
  | absx a slow | absy a slow | izy z slow =>
    cases slow with
    | true => rfl
    | false => rw [Mode.fetchTrace, List.length_append, indexTrace_fast_length]; rfl
  | _ => rfl

theorem branchTrace_length (pc target : Addr) (taken : Bool) :
    (branchTrace pc target taken).length = takenCycles pc target taken false := by
  cases taken with
  | false => rfl
  | true =>
    rw [branchTrace, takenCycles]
    cases pageCrossed pc target <;> rfl

theorem decimalTrace_length (p : Flags) : (decimalTrace p).length = bitNat p.d := by
  rw [decimalTrace]
  cases p.d <;> rfl

/-! ### The table -/

/-- What the timing table has for `i`, seen from its opcode and its mode: the base count covers the opcode event, the fetch and
`fixed` events of the instruction's own; a page crossing is that of the mode; the branch and decimal adders are as given. -/
structure TableEntry (i : Instr) (op : Byte) (m : Mode) (s : State) (fixed branch decimal : Nat) : Prop where
  opcode : opcodeOf i = op
  base : baseCycles op = 1 + m.fetchCycles + fixed
  cross : crossCycle i s = m.crossCycles (s.opcode op)
  branch : branchCycles i s = branch
  decimal : decimalCycle i s = decimal

theorem TableEntry.expectedCycles_eq {i : Instr} {op : Byte} {m : Mode} {s : State} {fixed branch decimal : Nat}
    (h : TableEntry i op m s fixed branch decimal) :
    expectedCycles i s = (m.fetchTrace (s.opcode op)).length + (fixed + branch + decimal) + 1 := by
  rw [expectedCycles, h.opcode, h.base, h.cross, h.branch, h.decimal, m.fetchTrace_length]
  omega

/-- The instruction step either answers a next state after the cycles of the table or refuses its reserved opcode. -/
def FollowsTable (i : Instr) (s : State) : Prop :=
  (∃ t, exec i s = .next t ∧ t.trace.length = expectedCycles i s) ∨ ∃ op, Refuses (exec i s) op s

section
variable {i : Instr} {op : Byte} {m : Mode} {s : State}

theorem Ran.trace_length {t : State} {rest : List Event} {after : Arch} (h : Ran op m s t rest after) :
    t.trace.length = (m.fetchTrace (s.opcode op)).length + rest.length + 1 := by
  obtain ⟨htrace, -⟩ := h
  rw [htrace, List.length_cons, List.length_append]

theorem followsTable_of_ran {t : State} {rest : List Event} {after : Arch} {fixed branch decimal : Nat}
    (hexec : exec i s = .next t) (hran : Ran op m s t rest after) (hrest : rest.length = fixed + branch + decimal)
    (hentry : TableEntry i op m s fixed branch decimal) : FollowsTable i s :=
  .inl ⟨t, hexec, by rw [hran.trace_length, hentry.expectedCycles_eq, hrest]⟩

/-- An instruction whose own events are always as many. -/
theorem followsTable_of_completes {rest : List Event} {after : Arch} (h : Completes i op m s rest after)
    (hentry : TableEntry i op m s rest.length 0 0) : FollowsTable i s := by
  obtain ⟨t, hexec, hran, -⟩ := h
  exact followsTable_of_ran hexec hran rfl hentry

/-- An instruction that adds the decimal cycle. -/
theorem followsTable_of_completes_decimal {rest : List Event} {after : Arch}
    (h : Completes i op m s (rest ++ decimalTrace s.p) after)
    (hentry : TableEntry i op m s rest.length 0 (bitNat s.p.d)) : FollowsTable i s := by
  obtain ⟨t, hexec, hran, -⟩ := h
  exact followsTable_of_ran hexec hran (by rw [List.length_append, decimalTrace_length, Nat.add_zero]) hentry

/-- A branch whose base count holds no taken cycle. -/
theorem followsTable_of_branchCompletes {b : Nat} {target : Addr} {taken : Bool}
    (h : BranchCompletes i op m s b target taken)
    (hentry : TableEntry i op m s 0 (takenCycles (m.nextPc s) target taken false) 0) : FollowsTable i s := by
  obtain ⟨t, hexec, hran, -⟩ := h
  exact followsTable_of_ran hexec hran (by rw [branchTrace_length, Nat.zero_add, Nat.add_zero]) hentry

/-- A branch that is always taken, whose base count holds the taken cycle. -/
theorem followsTable_of_branchAlways {b : Nat} {target : Addr} {taken : Bool}
    (h : BranchCompletes i op m s b target taken) (htaken : taken = true)
    (hentry : TableEntry i op m s 1 (takenCycles (m.nextPc s) target true true) 0) : FollowsTable i s := by
  obtain ⟨t, hexec, hran, -⟩ := h
  subst htaken
  refine followsTable_of_ran hexec hran ?_ hentry
  rw [branchTrace_length]
  simp [takenCycles, bitNat]

/-- An instruction whose use of its operand makes no event. -/
theorem followsTable_of_reads {use : Byte → State → State} {g : Byte → Arch → Arch} (h : ReadsThrough i op m use)
    (huse : ∀ v, Updates (use v) (g v)) (hentry : TableEntry i op m s (m.readTrace (s.opcode op)).length 0 0) :
    FollowsTable i s :=
  followsTable_of_completes (h.completes huse s) hentry

theorem followsTable_of_stores {source : State → Byte} (h : StoresThrough i op m source)
    (hentry : TableEntry i op m s 1 0 0) : FollowsTable i s := by
  obtain ⟨hcompletes, -⟩ := h.completes s
  exact followsTable_of_completes hcompletes hentry

theorem followsTable_of_modifies {f : State → Byte → Flags → Byte × Flags} (h : ModifiesThrough i op m f)
    (hentry : TableEntry i op m s 3 0 0) : FollowsTable i s := by
  obtain ⟨hcompletes, -⟩ := h.completes s fun _ _ => rfl
  exact followsTable_of_completes hcompletes hentry

theorem followsTable_of_accumulator {f : Byte → Flags → Byte × Flags} (hexec : exec i s = rmwInstr op .acc f s)
    (hentry : TableEntry i op .acc s 0 0 0) : FollowsTable i s := by
  obtain ⟨u, hrun, harch, hclock⟩ := rmwInstr_accumulator op f s
  exact followsTable_of_completes (completes_of_clock (rest := []) (hexec.trans hrun) harch hclock) hentry

/-- An instruction that makes no event after its fetch. -/
theorem followsTable_of_silent {t : State} (m : Mode) (hexec : exec i s = .next t)
    (htrace : t.trace = (m.events (s.opcode (opcodeOf i))).trace)
    (hentry : TableEntry i (opcodeOf i) m s 0 0 0) : FollowsTable i s := by
  refine .inl ⟨t, hexec, ?_⟩
  rw [hentry.expectedCycles_eq, htrace, (m.step_clock s (opcodeOf i)).trace]
  rfl

/-! ### Reserved opcodes -/

/-- A read completes under a condition on the state that makes `i` run it, as RESERVED_OPCODES = Nop does. -/
theorem completes_of_readInstr {use : Byte → State → State} {more : List Event} {g : Byte → Arch → Arch}
    (hm : m.isMemory = true ∨ ∃ v, m = .imm v) (hexec : exec i s = readInstr op m use s)
    (huse : ∀ v, UpdatesAfter (fun _ => more) (use v) (g v)) :
    Completes i op m s (m.readTrace (s.opcode op) ++ more) (g (m.operandByte (s.opcode op)) (movedPast m s)) := by
  obtain ⟨u, hrun, harch, hclock⟩ := readInstr_spec op m use s hm
  obtain ⟨huse_arch, huse_clock⟩ := huse (m.operandByte (s.opcode op)) u
  have hi : u.p.i = s.p.i := congrArg (fun r : Arch => r.p.i) harch
  refine completes_of_clock (hexec.trans hrun) (huse_arch.trans (congrArg _ harch)) ?_
  rw [← List.append_assoc]
  exact hclock.next hi huse_clock

/-- A no-operation drops the byte it has read. -/
theorem dropByte_updatesAfter (_ : Byte) : UpdatesAfter (fun _ => []) (fun u => u) fun r => r :=
  fun u => ⟨rfl, Clock.refl _ u⟩

/-- The idle cycles of 0x5C after its discarded read (notes/assumptions/19.md). -/
theorem fourIdles_updatesAfter (_ : Byte) :
    UpdatesAfter (fun _ => [.idle, .idle, .idle, .idle]) (fun u => u.idle.idle.idle.idle) fun r => r :=
  fun u => ⟨rfl, ((u.idle_clock.idle rfl).idle rfl).idle rfl⟩

theorem fiveIdles_clock (u : State) :
    Clock u.p.i u u.idle.idle.idle.idle.idle [.idle, .idle, .idle, .idle, .idle] :=
  (((u.idle_clock.idle rfl).idle rfl).idle rfl).idle rfl

/-- A reserved opcode is refused, or it is what it runs that follows the table. -/
theorem followsTable_of_reservedStep {run : State → Result} (hexec : exec i s = reservedStep op run s)
    (hrun : exec i s = run s → FollowsTable i s) : FollowsTable i s := by
  cases hreserved : s.reserved with
  | refuse => exact .inr ⟨op, hexec ▸ reservedStep_refuses op run hreserved⟩
  | nop => exact hrun (hexec.trans (reservedStep_runs_under_nop op run hreserved))

/-- A reserved opcode that reads its operand, if its form has one. -/
theorem followsTable_of_reservedRead (hm : m.isMemory = true ∨ ∃ v, m = .imm v)
    (hexec : exec i s = reservedStep op (readInstr op m fun _ t => t) s)
    (hentry : TableEntry i op m s (m.readTrace (s.opcode op) ++ []).length 0 0) : FollowsTable i s :=
  followsTable_of_reservedStep hexec fun hread =>
    followsTable_of_completes (completes_of_readInstr hm hread dropByte_updatesAfter) hentry

theorem followsTable_of_reservedPlain (hexec : exec i s = reservedStep op (plainInstr op m fun t => t) s)
    (hentry : TableEntry i op m s 0 0 0) : FollowsTable i s :=
  followsTable_of_reservedStep hexec fun hplain =>
    followsTable_of_completes (completes_of_updates hplain id_updates) hentry

end

/-- Under either account of its events 0x5C takes its eight cycles (47_control R433). -/
theorem followsTable_nop5C (a : Addr) (s : State) : FollowsTable (.nop5C a) s := by
  refine followsTable_of_reservedStep rfl fun hrun => ?_
  cases haccount : s.opcode5C with
  | fiveIdles =>
    have hplain : exec (.nop5C a) s = plainInstr 0x5C (.abs a) (fun t => t.idle.idle.idle.idle.idle) s := by
      rw [hrun, haccount]
    exact followsTable_of_completes (completes_of_plainInstr hplain rfl (fiveIdles_clock _)) (by constructor <;> rfl)
  | discardedRead =>
    have hread : exec (.nop5C a) s = readInstr 0x5C (.abs a) (fun _ t => t.idle.idle.idle.idle) s := by
      rw [hrun, haccount]
    exact followsTable_of_completes (completes_of_readInstr (.inl rfl) hread fourIdles_updatesAfter)
      (by constructor <;> rfl)

end Sys2Proof.Machine
end

section
/-! SUPPORT. The statement on the timing table (70_reset R520). -/

namespace Sys2Proof.Proofs

open Sys2Proof Sys2Proof.Machine Sys2Proof.Claims

/-- Each instruction's events, as its completion gives them, add up to its entry of the table. -/
theorem exec_followsTable (i : Instr) (s : State) : FollowsTable i s := by
  cases i with
  | ldaImm | ldaZp | ldaZpx | ldaAbs | ldaAbsx | ldaAbsy | ldaIzx | ldaIzy | ldaIzp =>
    exact followsTable_of_reads (readsThrough_of_ldaForm rfl) loadA_updates (by constructor <;> rfl)
  | ldxImm | ldxZp | ldxZpy | ldxAbs | ldxAbsy =>
    exact followsTable_of_reads (readsThrough_of_ldxForm rfl) loadX_updates (by constructor <;> rfl)
  | ldyImm | ldyZp | ldyZpx | ldyAbs | ldyAbsx =>
    exact followsTable_of_reads (readsThrough_of_ldyForm rfl) loadY_updates (by constructor <;> rfl)
  | staZp | staZpx | staAbs | staAbsx | staAbsy | staIzx | staIzy | staIzp =>
    exact followsTable_of_stores (storesThrough_of_staForm rfl) (by constructor <;> rfl)
  | stxZp | stxZpy | stxAbs => exact followsTable_of_stores (storesThrough_of_stxForm rfl) (by constructor <;> rfl)
  | styZp | styZpx | styAbs => exact followsTable_of_stores (storesThrough_of_styForm rfl) (by constructor <;> rfl)
  | stzZp | stzZpx | stzAbs | stzAbsx =>
    exact followsTable_of_stores (storesThrough_of_stzForm rfl) (by constructor <;> rfl)
  | adcImm | adcZp | adcZpx | adcAbs | adcAbsx | adcAbsy | adcIzx | adcIzy | adcIzp =>
    exact followsTable_of_completes_decimal ((readsThrough_of_adcForm rfl).completes_after adcWith_updatesAfter s)
      (by constructor <;> rfl)
  | sbcImm | sbcZp | sbcZpx | sbcAbs | sbcAbsx | sbcAbsy | sbcIzx | sbcIzy | sbcIzp =>
    exact followsTable_of_completes_decimal ((readsThrough_of_sbcForm rfl).completes_after sbcWith_updatesAfter s)
      (by constructor <;> rfl)
  | andImm | andZp | andZpx | andAbs | andAbsx | andAbsy | andIzx | andIzy | andIzp =>
    exact followsTable_of_reads (readsThrough_of_andForm rfl) andWith_updates (by constructor <;> rfl)
  | oraImm | oraZp | oraZpx | oraAbs | oraAbsx | oraAbsy | oraIzx | oraIzy | oraIzp =>
    exact followsTable_of_reads (readsThrough_of_oraForm rfl) oraWith_updates (by constructor <;> rfl)
  | eorImm | eorZp | eorZpx | eorAbs | eorAbsx | eorAbsy | eorIzx | eorIzy | eorIzp =>
    exact followsTable_of_reads (readsThrough_of_eorForm rfl) eorWith_updates (by constructor <;> rfl)
  | cmpImm | cmpZp | cmpZpx | cmpAbs | cmpAbsx | cmpAbsy | cmpIzx | cmpIzy | cmpIzp =>
    exact followsTable_of_reads (readsThrough_of_cmpForm rfl) cmpWith_updates (by constructor <;> rfl)
  | cpxImm | cpxZp | cpxAbs =>
    exact followsTable_of_reads (readsThrough_of_cpxForm rfl) cpxWith_updates (by constructor <;> rfl)
  | cpyImm | cpyZp | cpyAbs =>
    exact followsTable_of_reads (readsThrough_of_cpyForm rfl) cpyWith_updates (by constructor <;> rfl)
  | bitImm =>
    exact followsTable_of_reads (readsThrough_of_bitForm_immediate rfl ⟨_, rfl⟩) bitImmWith_updates (by constructor <;> rfl)
  | bitZp | bitZpx | bitAbs | bitAbsx =>
    exact followsTable_of_reads (readsThrough_of_bitForm_memory rfl nofun) bitWith_updates (by constructor <;> rfl)
  | aslZp | aslZpx | aslAbs | aslAbsx =>
    exact followsTable_of_modifies (modifiesThrough_of_aslForm rfl) (by constructor <;> rfl)
  | lsrZp | lsrZpx | lsrAbs | lsrAbsx =>
    exact followsTable_of_modifies (modifiesThrough_of_lsrForm rfl) (by constructor <;> rfl)
  | rolZp | rolZpx | rolAbs | rolAbsx =>
    exact followsTable_of_modifies (modifiesThrough_of_rolForm rfl) (by constructor <;> rfl)
  | rorZp | rorZpx | rorAbs | rorAbsx =>
    exact followsTable_of_modifies (modifiesThrough_of_rorForm rfl) (by constructor <;> rfl)
  | incZp | incZpx | incAbs | incAbsx =>
    exact followsTable_of_modifies (modifiesThrough_of_incForm rfl) (by constructor <;> rfl)
  | decZp | decZpx | decAbs | decAbsx =>
    exact followsTable_of_modifies (modifiesThrough_of_decForm rfl) (by constructor <;> rfl)
  | tsbZp | tsbAbs => exact followsTable_of_modifies (modifiesThrough_of_tsbForm rfl) (by constructor <;> rfl)
  | trbZp | trbAbs => exact followsTable_of_modifies (modifiesThrough_of_trbForm rfl) (by constructor <;> rfl)
  | rmb0 | rmb1 | rmb2 | rmb3 | rmb4 | rmb5 | rmb6 | rmb7 =>
    exact followsTable_of_modifies (modifiesThrough_of_rmbForm rfl) (by constructor <;> rfl)
  | smb0 | smb1 | smb2 | smb3 | smb4 | smb5 | smb6 | smb7 =>
    exact followsTable_of_modifies (modifiesThrough_of_smbForm rfl) (by constructor <;> rfl)
  | aslAcc | lsrAcc | rolAcc | rorAcc | incAcc | decAcc =>
    exact followsTable_of_accumulator rfl (by constructor <;> rfl)
  | inx | iny | dex | dey | tax | tay | txa | tya | tsx | txs | clc | sec | cli | sei | cld | sed | clv | nop =>
    exact followsTable_of_silent .imp rfl rfl (by constructor <;> rfl)
  | pha =>
    obtain ⟨⟨hpha, -⟩, -⟩ := pushesComplete s
    exact followsTable_of_completes hpha (by constructor <;> rfl)
  | php =>
    obtain ⟨-, ⟨hphp, -⟩, -⟩ := pushesComplete s
    exact followsTable_of_completes hphp (by constructor <;> rfl)
  | phx =>
    obtain ⟨-, -, ⟨hphx, -⟩, -⟩ := pushesComplete s
    exact followsTable_of_completes hphx (by constructor <;> rfl)
  | phy =>
    obtain ⟨-, -, -, hphy, -⟩ := pushesComplete s
    exact followsTable_of_completes hphy (by constructor <;> rfl)
  | pla =>
    obtain ⟨hpla, -⟩ := pullsComplete s
    exact followsTable_of_completes hpla (by constructor <;> rfl)
  | plx =>
    obtain ⟨-, hplx, -⟩ := pullsComplete s
    exact followsTable_of_completes hplx (by constructor <;> rfl)
  | ply =>
    obtain ⟨-, -, hply, -⟩ := pullsComplete s
    exact followsTable_of_completes hply (by constructor <;> rfl)
  | plp =>
    obtain ⟨-, -, -, hplp⟩ := pullsComplete s
    exact followsTable_of_completes hplp (by constructor <;> rfl)
  | wai =>
    exact followsTable_of_completes
      (completes_of_plainInstr (rest := fun u => u.idle.setWaiting true) rfl rfl ((State.idle_clock _).setWaiting true))
      (by constructor <;> rfl)
  | stp =>
    exact followsTable_of_completes
      (completes_of_plainInstr (rest := fun u => u.idle.setStopped true) rfl rfl ((State.idle_clock _).setStopped true))
      (by constructor <;> rfl)
  | bpl | bmi | bvc | bvs | bcc | bcs | bne | beq =>
    exact followsTable_of_branchCompletes (branchCompletes_of_branchInstr (exec_eq_branchInstr rfl s))
      (by constructor <;> rfl)
  | bra =>
    exact followsTable_of_branchAlways (branchCompletes_of_branchInstr (exec_eq_branchInstr rfl s)) rfl
      (by constructor <;> rfl)
  | bbr0 | bbr1 | bbr2 | bbr3 | bbr4 | bbr5 | bbr6 | bbr7 | bbs0 | bbs1 | bbs2 | bbs3 | bbs4 | bbs5 | bbs6 | bbs7 =>
    exact followsTable_of_branchCompletes (branchCompletes_of_bitBranchInstr (exec_eq_bitBranchInstr rfl s))
      (by constructor <;> rfl)
  | jmpAbs a =>
    obtain ⟨habs, -⟩ := jumpsComplete s a
    exact followsTable_of_completes habs (by constructor <;> rfl)
  | jmpInd a =>
    obtain ⟨-, hind, -⟩ := jumpsComplete s a
    exact followsTable_of_completes hind (by constructor <;> rfl)
  | jmpIax a =>
    obtain ⟨-, -, hiax⟩ := jumpsComplete s a
    exact followsTable_of_completes hiax (by constructor <;> rfl)
  | jsr a =>
    obtain ⟨hjsr, -⟩ := jsrCompletes s a
    exact followsTable_of_completes hjsr (by constructor <;> rfl)
  | rts => exact followsTable_of_completes (rtsCompletes s) (by constructor <;> rfl)
  | rti =>
    obtain ⟨t, hexec, hran, -⟩ := rtiCompletes s
    exact followsTable_of_ran (branch := 0) (decimal := 0) hexec hran rfl (by constructor <;> rfl)
  | brk sig =>
    obtain ⟨⟨t, hexec, hran, -⟩, -⟩ := brkCompletes s sig
    exact followsTable_of_ran (branch := 0) (decimal := 0) hexec hran rfl (by constructor <;> rfl)
  | nop02 | nop22 | nop42 | nop62 | nop82 | nopC2 | nopE2 =>
    exact followsTable_of_reservedRead (.inr ⟨_, rfl⟩) rfl (by constructor <;> rfl)
  | nop44 | nop54 | nopD4 | nopF4 | nopDC | nopFC =>
    exact followsTable_of_reservedRead (.inl rfl) rfl (by constructor <;> rfl)
  | nop5C a => exact followsTable_nop5C a s
  | nop03 | nop13 | nop23 | nop33 | nop43 | nop53 | nop63 | nop73 | nop83 | nop93 | nopA3 | nopB3 | nopC3 | nopD3 | nopE3
  | nopF3 | nop0B | nop1B | nop2B | nop3B | nop4B | nop5B | nop6B | nop7B | nop8B | nop9B | nopAB | nopBB | nopEB | nopFB =>
    exact followsTable_of_reservedPlain rfl (by constructor <;> rfl)

/-- The cycles are as many as the events, since each event is one cycle (20_memory R71). -/
theorem exec_next_cycles {i : Instr} {s t : State} (h : exec i s = .next t) :
    t.trace.length = expectedCycles i s ∧ t.cycles = s.cycles + expectedCycles i s := by
  have hlength : t.trace.length = expectedCycles i s := by
    obtain ⟨u, hexec, hlength⟩ | ⟨op, u, hrefused, -⟩ := exec_followsTable i s
    · rw [h, Host.Outcome.next.injEq] at hexec
      rw [hexec, hlength]
    · rw [h] at hrefused
      nomatch hrefused
  obtain ⟨op, m, rest, -, hreaches⟩ := exec_runs i s t h
  obtain ⟨hcycles, htrace, -⟩ := hreaches.clocked
  refine ⟨hlength, ?_⟩
  rw [← hlength, hcycles, htrace]
  rfl

theorem exec_refused_cycles {i : Instr} {s : State} {r : Refusal} (h : exec i s = .refused r) :
    ∃ op a u, r = .reservedOpcode op a u ∧ u.trace.length = 1 ∧ u.cycles = s.cycles + 1 := by
  obtain ⟨t, hexec, -⟩ | ⟨op, u, hrefused, htrace, hcycles, -⟩ := exec_followsTable i s
  · rw [h] at hexec
    nomatch hexec
  · rw [h, Host.Outcome.refused.injEq] at hrefused
    exact ⟨op, s.pc, u, hrefused, congrArg List.length htrace, hcycles⟩

/-- Settles O13: every instruction follows the table, and the steps that run none have their counts from their own events. -/
theorem cycleTable : Obligations.CycleTable := by
  refine ⟨fun _ _ _ => exec_next_cycles, fun _ _ _ => exec_refused_cycles, fun s => ?_⟩
  obtain ⟨hinterrupt, -⟩ := s.interruptEntry_clocks
  obtain ⟨-, hwait, -⟩ := s.waitStep_clocks
  exact ⟨hinterrupt, s.resetStep_clock.cycles, hwait, rfl⟩

end Sys2Proof.Proofs
end

section
/-! SUPPORT. How each row of the opcode matrix lays its operand out in the bytes after the opcode, and that decoding and
encoding undo each other for each layout (30_encoding R140, R141, R145, R148, R154). -/

namespace Sys2Proof

open Sys2Proof.Machine

/-! ### Decoding what was encoded -/

/-- The two operand bytes of an address, low byte first, join to it. -/
theorem decode_address {op : Byte} {mk : Addr → Instr} (hlen : lengthOf op = 3)
    (hdecode : ∀ b c, decodeBytes op b c = mk (joinBytes c b)) (a : Addr) (rest : List Byte) :
    decode (op :: loByte a :: hiByte a :: rest) = .ok (mk a, rest) := by
  rw [decode_three, hlen, hdecode, joinBytes_hiByte_loByte]
  rfl

/-- The byte of an offset in range, read as a signed number, is the offset. -/
theorem ok_offsetByte_toInt {mk : Int → Instr} {off : Int} (h : offsetFits off = true) (rest : List Byte) :
    (Except.ok (mk (offsetByte off).toInt, rest) : Except DecodeError (Instr × List Byte)) = .ok (mk off, rest) := by
  rw [offsetByte_toInt h]

/-- An instruction with no operand or with byte operands decodes from its bytes as they stand; an address joins from its
bytes and an offset survives its byte. -/
theorem decode_encode_append (i : Instr) (rest : List Byte) (h : i.wellFormed = true) :
    decode (encode i ++ rest) = .ok (i, rest) := by
  cases i with
  | tsbAbs a | oraAbs a | aslAbs a | oraAbsy a | trbAbs a | oraAbsx a | aslAbsx a | jsr a | bitAbs a | andAbs a
  | rolAbs a | andAbsy a | bitAbsx a | andAbsx a | rolAbsx a | jmpAbs a | eorAbs a | lsrAbs a | eorAbsy a | nop5C a
  | eorAbsx a | lsrAbsx a | jmpInd a | adcAbs a | rorAbs a | adcAbsy a | jmpIax a | adcAbsx a | rorAbsx a | styAbs a
  | staAbs a | stxAbs a | staAbsy a | stzAbs a | staAbsx a | stzAbsx a | ldyAbs a | ldaAbs a | ldxAbs a | ldaAbsy a
  | ldyAbsx a | ldaAbsx a | ldxAbsy a | cpyAbs a | cmpAbs a | decAbs a | cmpAbsy a | nopDC a | cmpAbsx a | decAbsx a
  | cpxAbs a | sbcAbs a | incAbs a | sbcAbsy a | nopFC a | sbcAbsx a | incAbsx a =>
    exact decode_address rfl (fun _ _ => rfl) a rest
  | bpl | bmi | bvc | bvs | bra | bcc | bcs | bne | beq => exact ok_offsetByte_toInt h rest
  | bbr0 z | bbr1 z | bbr2 z | bbr3 z | bbr4 z | bbr5 z | bbr6 z | bbr7 z
  | bbs0 z | bbs1 z | bbs2 z | bbs3 z | bbs4 z | bbs5 z | bbs6 z | bbs7 z => exact ok_offsetByte_toInt h rest
  | _ => rfl

/-! ### Encoding what was decoded -/

/-- How the entry of an opcode makes its instruction of the bytes after it; the number is the length with the opcode. -/
inductive LaidOut (op : Byte) : Nat → OpcodeEntry → Prop where
  | implied (i : Instr) : i.wellFormed = true → encode i = [op] → LaidOut op 1 fun _ _ => i
  | byte (mk : Byte → Instr) : (∀ b, (mk b).wellFormed = true) → (∀ b, encode (mk b) = [op, b]) →
      LaidOut op 2 fun b _ => mk b
  | address (mk : Addr → Instr) : (∀ a, (mk a).wellFormed = true) →
      (∀ a, encode (mk a) = [op, loByte a, hiByte a]) → LaidOut op 3 fun b c => mk (joinBytes c b)
  | relative (mk : Int → Instr) : (∀ off, (mk off).wellFormed = offsetFits off) →
      (∀ off, encode (mk off) = [op, offsetByte off]) → LaidOut op 2 fun b _ => mk b.toInt
  | tested (mk : Byte → Int → Instr) : (∀ z off, (mk z off).wellFormed = offsetFits off) →
      (∀ z off, encode (mk z off) = [op, z, offsetByte off]) → LaidOut op 3 fun b c => mk b c.toInt

/-- Every layout gives a well-formed instruction, whose encoding is the bytes it was made of. -/
theorem LaidOut.encode_entry {op : Byte} {n : Nat} {entry : OpcodeEntry} (h : LaidOut op n entry) (b c : Byte) :
    (entry b c).wellFormed = true ∧ encode (entry b c) = [op, b, c].take n ∧ 1 ≤ n ∧ n ≤ 3 := by
  cases h with
  | implied i hwf henc => exact ⟨hwf, henc, by decide⟩
  | byte mk hwf henc => exact ⟨hwf b, henc b, by decide⟩
  | address mk hwf henc => exact ⟨hwf _, by rw [henc, loByte_joinBytes, hiByte_joinBytes]; rfl, by decide⟩
  | relative mk hwf henc => exact ⟨by rw [hwf, offsetFits_ofByte], by rw [henc, offsetByte_ofByte]; rfl, by decide⟩
  | tested mk hwf henc => exact ⟨by rw [hwf, offsetFits_ofByte], by rw [henc, offsetByte_ofByte]; rfl, by decide⟩

/-- The opcode in a row and a column of the matrix. -/
def opcodeAt (hi lo : Fin 16) : Byte := BitVec.ofNat 8 (hi.val * 16 + lo.val)

theorem opcodeAt_row_column (op : Byte) : opcodeAt (opcodeHi op) (opcodeLo op) = op := by
  apply BitVec.eq_of_toNat_eq
  rw [opcodeAt, opcodeHi_val, opcodeLo_val, BitVec.toNat_ofNat]
  omega

/-- The entry of the matrix in a row and a column is laid out. -/
def EntryLaidOut (hi lo : Fin 16) : Prop :=
  LaidOut (opcodeAt hi lo) ((lengthMatrix.get hi).get lo) ((opcodeMatrix.get hi).get lo)

/-- Columns 3, 8, A and B: no operand. -/
theorem laidOut_implied_columns (hi : Fin 16) :
    EntryLaidOut hi 0x3 ∧ EntryLaidOut hi 0x8 ∧ EntryLaidOut hi 0xA ∧ EntryLaidOut hi 0xB := by
  refine ⟨?_, ?_, ?_, ?_⟩ <;> fin_cases hi <;> exact .implied _ rfl rfl

/-- Columns 1, 2 and 4 to 7: one byte. -/
theorem laidOut_byte_columns (hi : Fin 16) :
    EntryLaidOut hi 0x1 ∧ EntryLaidOut hi 0x2 ∧ EntryLaidOut hi 0x4 ∧ EntryLaidOut hi 0x5 ∧ EntryLaidOut hi 0x6
      ∧ EntryLaidOut hi 0x7 := by
  refine ⟨?_, ?_, ?_, ?_, ?_, ?_⟩ <;> fin_cases hi <;> exact .byte _ (fun _ => rfl) fun _ => rfl

/-- Columns C to E: an address. -/
theorem laidOut_address_columns (hi : Fin 16) : EntryLaidOut hi 0xC ∧ EntryLaidOut hi 0xD ∧ EntryLaidOut hi 0xE := by
  refine ⟨?_, ?_, ?_⟩ <;> fin_cases hi <;> exact .address _ (fun _ => rfl) fun _ => rfl

/-- Column F: the bit-test branches. -/
theorem laidOut_columnF (hi : Fin 16) : EntryLaidOut hi 0xF := by
  fin_cases hi <;> exact .tested _ (fun _ _ => rfl) fun _ _ => rfl

/-- Column 9: an immediate byte in the even rows, an address in the odd ones. -/
theorem laidOut_column9 (hi : Fin 16) : EntryLaidOut hi 0x9 := by
  have hrow : hi ∈ [0x0, 0x2, 0x4, 0x6, 0x8, 0xA, 0xC, 0xE] ∨ hi ∈ [0x1, 0x3, 0x5, 0x7, 0x9, 0xB, 0xD, 0xF] := by
    revert hi; decide
  obtain hrow | hrow := hrow
  · fin_cases hrow <;> exact .byte _ (fun _ => rfl) fun _ => rfl
  · fin_cases hrow <;> exact .address _ (fun _ => rfl) fun _ => rfl

/-- Column 0: the relative branches; BRK and the immediate LDY, CPY and CPX; JSR; RTI and RTS. -/
theorem laidOut_column0 (hi : Fin 16) : EntryLaidOut hi 0x0 := by
  have hrow : hi ∈ [0x1, 0x3, 0x5, 0x7, 0x8, 0x9, 0xB, 0xD, 0xF] ∨ hi ∈ [0x0, 0xA, 0xC, 0xE] ∨ hi ∈ [0x4, 0x6]
      ∨ hi = 0x2 := by
    revert hi; decide
  obtain hrow | hrow | hrow | rfl := hrow
  · fin_cases hrow <;> exact .relative _ (fun _ => rfl) fun _ => rfl
  · fin_cases hrow <;> exact .byte _ (fun _ => rfl) fun _ => rfl
  · fin_cases hrow <;> exact .implied _ rfl rfl
  · exact .address _ (fun _ => rfl) fun _ => rfl

theorem laidOut (hi lo : Fin 16) : EntryLaidOut hi lo := by
  obtain ⟨h3, h8, hA, hB⟩ := laidOut_implied_columns hi
  obtain ⟨h1, h2, h4, h5, h6, h7⟩ := laidOut_byte_columns hi
  obtain ⟨hC, hD, hE⟩ := laidOut_address_columns hi
  fin_cases lo
  exacts [laidOut_column0 hi, h1, h2, h3, h4, h5, h6, h7, h8, laidOut_column9 hi, hA, hB, hC, hD, hE, laidOut_columnF hi]

/-- Three bytes decode to an instruction whose encoding is as many of them as the opcode's length says. -/
theorem encode_decodeBytes (op b c : Byte) :
    (decodeBytes op b c).wellFormed = true ∧ encode (decodeBytes op b c) = [op, b, c].take (lengthOf op)
      ∧ 1 ≤ lengthOf op ∧ lengthOf op ≤ 3 := by
  have h := (laidOut (opcodeHi op) (opcodeLo op)).encode_entry b c
  rwa [opcodeAt_row_column] at h

end Sys2Proof
end

section
/-! SUPPORT. The statements on decoding and encoding (30_encoding R140 to R154). -/

namespace Sys2Proof.Proofs

open Sys2Proof

/-- Settles O1, by the operand layout of each instruction. -/
theorem decodeInvertsEncode : Obligations.DecodeInvertsEncode := decode_encode_append

/-- Settles O2, by the layout of each entry of the opcode matrix, column by column. -/
theorem encodeInvertsDecode : Obligations.EncodeInvertsDecode := encode_decodeBytes

/-- Settles O3: each word has its bytes joined and its offset read as a signed number. -/
theorem specWordsDecode : Obligations.SpecWordsDecode :=
  ⟨rfl, rfl, rfl, rfl, rfl, rfl, rfl, rfl, rfl⟩

end Sys2Proof.Proofs
end

section
/-! SUPPORT. The accumulator forms, WAI and STP, and what a reserved opcode runs under RESERVED_OPCODES = Nop
(45_rmw_bits R331 to R336, 47_control_system R425, R426, R428 to R433). -/

namespace Sys2Proof.Machine

open Sys2Proof.Claims

section
variable {i : Instr} {op : Byte} {m : Mode} {s : State}

/-- A read-modify-write of A completes after its fetch; `g` is any other form of what `f` computes (41_accessors R203). -/
theorem accCompletes_of_rmwInstr {f g : Byte → Flags → Byte × Flags} (hexec : exec i s = rmwInstr op .acc f s)
    (hfg : ∀ v p, f v p = g v p) : AccCompletes i op s g := by
  obtain rfl : f = g := funext fun v => funext (hfg v)
  obtain ⟨u, hrun, harch, hclock⟩ := rmwInstr_accumulator op f s
  exact completes_of_clock (rest := []) (hexec.trans hrun) harch hclock

/-- An instruction that spends one idle cycle after its fetch and then updates the state without an event. -/
theorem completes_of_idleThen {f : State → State} {g : Arch → Arch}
    (hexec : exec i s = plainInstr op m (fun u => f u.idle) s) (hf : Updates f g) :
    Completes i op m s [.idle] (g (movedPast m s)) := by
  obtain ⟨hf_arch, hf_clock⟩ := hf (m.events (s.opcode op)).idle
  exact completes_of_plainInstr hexec (hf_arch.trans (congrArg g (m.step_arch s op)))
    ((State.idle_clock _).same (hf_clock _))

theorem setWaiting_updates (v : Bool) : Updates (fun u => u.setWaiting v) fun r => { r with waiting := v } :=
  fun u => ⟨rfl, fun i => Clock.of_setWaiting i u v⟩

theorem setStopped_updates (v : Bool) : Updates (fun u => u.setStopped v) fun r => { r with stopped := v } :=
  fun u => ⟨rfl, fun i => Clock.of_setStopped i u v⟩

/-! ### Reserved opcodes under Nop -/

/-- A reserved opcode with an operand reads it, once, and drops the byte. -/
theorem completes_of_reservedRead (hnop : s.reserved = .nop) (hm : m.isMemory = true ∨ ∃ v, m = .imm v)
    (hexec : exec i s = reservedStep op (readInstr op m fun _ t => t) s) :
    Completes i op m s (m.readTrace (s.opcode op)) (movedPast m s) := by
  have h := completes_of_readInstr hm (hexec.trans (reservedStep_runs_under_nop op _ hnop)) dropByte_updatesAfter
  rwa [List.append_nil] at h

/-- A reserved opcode without an operand makes its opcode event only. -/
theorem completes_of_reservedPlain (hnop : s.reserved = .nop)
    (hexec : exec i s = reservedStep op (plainInstr op m fun t => t) s) : Completes i op m s [] (movedPast m s) :=
  completes_of_updates (hexec.trans (reservedStep_runs_under_nop op _ hnop)) id_updates

/-- Each form of a reserved opcode reads the operand it has (47_control_system R428 to R432). -/
theorem completes_of_reservedForm (hnop : s.reserved = .nop) (hform : reservedForm i = some (op, m)) :
    Completes i op m s (if m = .nop1 then [] else m.readTrace (s.opcode op)) (movedPast m s) := by
  cases i with
  | nop02 v | nop22 v | nop42 v | nop62 v | nop82 v | nopC2 v | nopE2 v =>
    cases hform
    rw [if_neg nofun]
    exact completes_of_reservedRead hnop (.inr ⟨v, rfl⟩) rfl
  | nop44 | nop54 | nopD4 | nopF4 | nopDC | nopFC =>
    cases hform
    rw [if_neg nofun]
    exact completes_of_reservedRead hnop (.inl rfl) rfl
  | nop03 | nop13 | nop23 | nop33 | nop43 | nop53 | nop63 | nop73 | nop83 | nop93 | nopA3 | nopB3 | nopC3 | nopD3 | nopE3
  | nopF3 | nop0B | nop1B | nop2B | nop3B | nop4B | nop5B | nop6B | nop7B | nop8B | nop9B | nopAB | nopBB | nopEB | nopFB =>
    cases hform
    rw [if_pos rfl]
    exact completes_of_reservedPlain hnop rfl
  | _ => cases hform

/-- 0x5C by the account of 47_control_system R433. -/
theorem nop5C_completes_fiveIdles (a : Addr) (hnop : s.reserved = .nop) (haccount : s.opcode5C = .fiveIdles) :
    Completes (.nop5C a) 0x5C (.abs a) s [.idle, .idle, .idle, .idle, .idle] (movedPast (.abs a) s) := by
  have hexec : exec (.nop5C a) s = plainInstr 0x5C (.abs a) (fun t => t.idle.idle.idle.idle.idle) s := by
    rw [exec, execNop5C, reservedStep_runs_under_nop _ _ hnop, haccount]
  refine completes_of_plainInstr hexec ?_ (fiveIdles_clock _)
  simp only [State.idle_arch, Mode.step_arch]
  rfl

/-- 0x5C by the account of 41_accessors R206. -/
theorem nop5C_completes_discardedRead (a : Addr) (hnop : s.reserved = .nop) (haccount : s.opcode5C = .discardedRead) :
    Completes (.nop5C a) 0x5C (.abs a) s ((Mode.abs a).readTrace (s.opcode 0x5C) ++ [.idle, .idle, .idle, .idle])
      (movedPast (.abs a) s) := by
  have hexec : exec (.nop5C a) s = readInstr 0x5C (.abs a) (fun _ t => t.idle.idle.idle.idle) s := by
    rw [exec, execNop5C, reservedStep_runs_under_nop _ _ hnop, haccount]
  exact completes_of_readInstr (.inl rfl) hexec fourIdles_updatesAfter

end

/-- The reserved opcodes are the forms of the table and 0x5C. -/
theorem reservedForm_or_nop5C {i : Instr} (h : opcodeOf i ∈ reservedOpcodes) :
    (∃ op m, reservedForm i = some (op, m)) ∨ ∃ a, i = .nop5C a := by
  have hop := decide_eq_true h
  cases i with
  | nop5C a => exact .inr ⟨a, rfl⟩
  | nop02 | nop22 | nop42 | nop62 | nop82 | nopC2 | nopE2 => exact .inl ⟨_, _, rfl⟩
  | nop44 | nop54 | nopD4 | nopF4 | nopDC | nopFC => exact .inl ⟨_, _, rfl⟩
  | nop03 | nop13 | nop23 | nop33 | nop43 | nop53 | nop63 | nop73 => exact .inl ⟨_, _, rfl⟩
  | nop83 | nop93 | nopA3 | nopB3 | nopC3 | nopD3 | nopE3 | nopF3 => exact .inl ⟨_, _, rfl⟩
  | nop0B | nop1B | nop2B | nop3B | nop4B | nop5B | nop6B | nop7B => exact .inl ⟨_, _, rfl⟩
  | nop8B | nop9B | nopAB | nopBB | nopEB | nopFB => exact .inl ⟨_, _, rfl⟩
  | _ => exact absurd hop Bool.false_ne_true

/-- Under Nop a reserved opcode answers a next state. -/
theorem exec_reserved_next {i : Instr} {s : State} (hnop : s.reserved = .nop) (h : opcodeOf i ∈ reservedOpcodes) :
    ∃ t, exec i s = .next t := by
  obtain ⟨op, m, hform⟩ | ⟨a, rfl⟩ := reservedForm_or_nop5C h
  · obtain ⟨t, hexec, -⟩ := completes_of_reservedForm hnop hform
    exact ⟨t, hexec⟩
  · cases haccount : s.opcode5C with
    | fiveIdles =>
      obtain ⟨t, hexec, -⟩ := nop5C_completes_fiveIdles a hnop haccount
      exact ⟨t, hexec⟩
    | discardedRead =>
      obtain ⟨t, hexec, -⟩ := nop5C_completes_discardedRead a hnop haccount
      exact ⟨t, hexec⟩

end Sys2Proof.Machine
end

section
/-! SUPPORT. The statements on the accumulator forms, WAI and STP, and the reserved opcodes under Nop. -/

namespace Sys2Proof.Proofs

open Sys2Proof Sys2Proof.Machine Sys2Proof.Claims

/-- Settles O41: each form is a read-modify-write of A by its own function of the byte and the flags. -/
theorem accumulatorFormsComplete : Obligations.AccumulatorFormsComplete := by
  intro s
  refine ⟨?asl, ?lsr, ?rol, ?ror, ?inc, ?dec⟩
  case asl => exact accCompletes_of_rmwInstr (f := aslByte) rfl fun _ _ => rfl
  case lsr => exact accCompletes_of_rmwInstr (f := lsrByte) rfl fun _ _ => rfl
  case rol => exact accCompletes_of_rmwInstr rfl rolByte_eq
  case ror => exact accCompletes_of_rmwInstr rfl rorByte_eq
  case inc => exact accCompletes_of_rmwInstr (f := incByte) rfl fun _ _ => rfl
  case dec => exact accCompletes_of_rmwInstr (f := decByte) rfl fun _ _ => rfl

/-- Settles O47: after the idle cycle of the fetch and one more, each sets its own bit. -/
theorem waitAndStopComplete : Obligations.WaitAndStopComplete := fun _ =>
  ⟨completes_of_idleThen rfl (setWaiting_updates true), completes_of_idleThen rfl (setStopped_updates true)⟩

/-- Settles O55, by the form of the opcode, and for 0x5C by the account the state holds. -/
theorem reservedOpcodesRunAsNops : Obligations.ReservedOpcodesRunAsNops := fun _ _ _ a _ hnop =>
  ⟨completes_of_reservedForm hnop, nop5C_completes_fiveIdles a hnop, nop5C_completes_discardedRead a hnop⟩

end Sys2Proof.Proofs
end

section
/-! SUPPORT. What a step can answer: which of the five kinds of step it makes, that an instruction raises no fault, and that
it is refused only as a reserved opcode under Refuse (41_accessors R205, R207, R219). -/

namespace Sys2Proof.Machine

open Sys2Proof.Claims

/-! ### The kinds of step -/

theorem State.betweenSteps_of_no_agents {s : State} (h : s.agents = []) : s.betweenSteps = s := by
  simp only [State.betweenSteps, h]

section
variable {s : State} (hreset : s.resetRequest = false)
include hreset

theorem State.dispatch_of_stopped (hstopped : s.stopped = true) : s.dispatch = .next s.haltStep := by
  simp [State.dispatch, State.choice, hreset, hstopped]

theorem State.dispatch_of_pending (hstopped : s.stopped = false) (hpending : s.pending = true) :
    s.dispatch = .next s.interruptEntry := by
  simp [State.dispatch, State.choice, hreset, hstopped, hpending]

theorem State.dispatch_of_waiting (hstopped : s.stopped = false) (hpending : s.pending = false)
    (hwaiting : s.waiting = true) : s.dispatch = .next s.waitStep := by
  simp [State.dispatch, State.choice, hreset, hstopped, hpending, hwaiting]

theorem State.dispatch_of_running (hstopped : s.stopped = false) (hpending : s.pending = false)
    (hwaiting : s.waiting = false) : s.dispatch = exec s.fetchedInstr s := by
  simp [State.dispatch, State.choice, hreset, hstopped, hpending, hwaiting]

end

/-- Only an instruction can answer anything but a next state. -/
theorem State.dispatch_next_or_exec (s : State) : (∃ t, s.dispatch = .next t) ∨ s.dispatch = exec s.fetchedInstr s := by
  rw [State.dispatch]
  cases s.choice with
  | instruction => exact .inr rfl
  | _ => exact .inl ⟨_, rfl⟩

/-! ### What is fetched -/

/-- Three bytes at PC that decode are the fetched instruction. -/
theorem State.fetchedInstr_of_decode {s : State} {i : Instr} {rest : List Byte}
    (h : decode [s.byteAt 1 s.pc, s.byteAt 2 (s.pc + 1), s.byteAt (thirdByteEvent (s.byteAt 1 s.pc)) (s.pc + 2)]
      = .ok (i, rest)) : s.fetchedInstr = i := by
  rw [decode_three, Except.ok.injEq, Prod.mk.injEq] at h
  obtain ⟨hdecode, -⟩ := h
  exact hdecode

/-- The opcode of decoded bytes is their first (30_encoding R154). -/
theorem opcodeOf_decodeBytes (op b c : Byte) : opcodeOf (decodeBytes op b c) = op := by
  obtain ⟨-, hencode, hlength, -⟩ := encode_decodeBytes op b c
  obtain ⟨n, hn⟩ := Nat.exists_eq_add_of_le' hlength
  rw [opcodeOf, hencode, hn]
  rfl

theorem State.opcodeOf_fetchedInstr (s : State) : opcodeOf s.fetchedInstr = s.byteAt 1 s.pc :=
  opcodeOf_decodeBytes _ _ _

/-! ### Faults and refusals of an instruction -/

theorem exec_ne_fault (i : Instr) (s : State) (f : Fault) : exec i s ≠ .fault f := by
  obtain ⟨t, hnext, -⟩ | ⟨op, u, hrefused, -⟩ := Proofs.exec_followsTable i s
  · rw [hnext]; nofun
  · rw [hrefused]; nofun

/-- Every instruction of an opcode that is not reserved answers a next state: its mode's accessor supports its operation
(30_encoding R154, 41_accessors R205). -/
theorem exec_next_of_not_reserved {i : Instr} (h : opcodeOf i ∉ reservedOpcodes) (s : State) :
    ∃ t, exec i s = .next t := by
  have hop := decide_eq_false h
  cases i with
  | nop02 | nop22 | nop42 | nop62 | nop82 | nopC2 | nopE2 => exact absurd hop.symm Bool.false_ne_true
  | nop44 | nop54 | nopD4 | nopF4 | nopDC | nopFC | nop5C => exact absurd hop.symm Bool.false_ne_true
  | nop03 | nop13 | nop23 | nop33 | nop43 | nop53 | nop63 | nop73 => exact absurd hop.symm Bool.false_ne_true
  | nop83 | nop93 | nopA3 | nopB3 | nopC3 | nopD3 | nopE3 | nopF3 => exact absurd hop.symm Bool.false_ne_true
  | nop0B | nop1B | nop2B | nop3B | nop4B | nop5B | nop6B | nop7B => exact absurd hop.symm Bool.false_ne_true
  | nop8B | nop9B | nopAB | nopBB | nopEB | nopFB => exact absurd hop.symm Bool.false_ne_true
  | _ => exact ⟨_, rfl⟩

/-- An instruction is refused only if its opcode is reserved and RESERVED_OPCODES = Refuse. -/
theorem reserved_of_exec_refused {i : Instr} {s : State} {r : Refusal} (h : exec i s = .refused r) :
    s.reserved = .refuse ∧ opcodeOf i ∈ reservedOpcodes := by
  have hnext : ¬∃ t, exec i s = .next t := fun ⟨t, ht⟩ => nomatch h.symm.trans ht
  have hop : opcodeOf i ∈ reservedOpcodes := by_contra fun hnot => hnext (exec_next_of_not_reserved hnot s)
  refine ⟨?_, hop⟩
  cases hreserved : s.reserved with
  | refuse => rfl
  | nop => exact absurd (exec_reserved_next hreserved hop) hnext

/-! ### The events of an instruction -/

theorem Mode.stepTrace_length (m : Mode) (s : State) (op : Byte) :
    1 ≤ (m.stepTrace s op).length ∧ (m.stepTrace s op).length ≤ m.fetchBound + 1 := by
  rw [Mode.stepTrace, List.length_cons]
  exact ⟨Nat.le_add_left 1 _, Nat.succ_le_succ (m.fetchTrace_length_le _)⟩

end Sys2Proof.Machine
end

section
/-! SUPPORT. The statements on what a step answers and on the events of an instruction (41_accessors R205 to R220). -/

namespace Sys2Proof.Proofs

open Sys2Proof Sys2Proof.Machine Sys2Proof.Claims

/-- Settles O7: only an instruction could raise a fault, and it answers a next state or a refusal. -/
theorem stepNeverFaults : Obligations.StepNeverFaults := by
  intro s f
  obtain ⟨t, hnext⟩ | hexec := s.betweenSteps.dispatch_next_or_exec
  · rw [step, hnext]; nofun
  · rw [step, hexec]; exact exec_ne_fault _ _ f

/-- Settles O8: only an instruction is refused, and the opcode of the fetched one is the byte at PC. -/
theorem stepRefusesOnlyReserved : Obligations.StepRefusesOnlyReserved := by
  intro s r hstep u
  have hexec : exec u.fetchedInstr u = .refused r := by
    obtain ⟨t, hnext⟩ | hexec := u.dispatch_next_or_exec
    · exact nomatch hnext.symm.trans hstep
    · exact hexec.symm.trans hstep
  obtain ⟨hrefuse, hop⟩ := reserved_of_exec_refused hexec
  have hrefuses := reservedOpcodesAreRefused u.fetchedInstr u hrefuse hop
  rw [hexec, u.opcodeOf_fetchedInstr] at hrefuses
  rw [u.opcodeOf_fetchedInstr] at hop
  exact ⟨hrefuse, hop, hrefuses⟩

/-- Settles O12, from the events that every instruction reaches its next state by. -/
theorem everyEventIsClocked : Obligations.EveryEventIsClocked := by
  intro i s t hexec
  obtain ⟨op, m, rest, hbound, hreaches⟩ := exec_runs i s t hexec
  obtain ⟨hcycles, htrace, hprev, hedge, hreports, hlines⟩ := hreaches.clocked
  obtain ⟨hone, hfetch⟩ := m.stepTrace_length s op
  have htrace : t.trace = m.stepTrace s op ++ rest := htrace
  have hlength : t.trace.length = (m.stepTrace s op).length + rest.length := by rw [htrace, List.length_append]
  rw [State.beginStep_prevAfter] at hprev
  rw [State.beginStep_edgeAfter] at hedge
  rw [← htrace] at hcycles hprev hedge hreports hlines
  exact ⟨hcycles, by omega, by omega, hprev, hedge, hreports, hlines⟩

/-- Settles O5: the bytes that the fetch reads at PC decode to the fetched instruction, which a running core executes. -/
theorem stepRunsDecodedInstr : Obligations.StepRunsDecodedInstr := by
  intro s i rest u
  refine ⟨State.betweenSteps_of_no_agents, fun hreset hstopped hpending hwaiting hdecode => ?_⟩
  rw [step, State.dispatch_of_running hreset hstopped hpending hwaiting, State.fetchedInstr_of_decode hdecode]

/-- Settles O6, by the order in which the dispatch looks at the run state. -/
theorem stepTestsRunStateInOrder : Obligations.StepTestsRunStateInOrder := fun _ =>
  ⟨State.dispatch_of_resetRequest, State.dispatch_of_stopped, State.dispatch_of_pending, State.dispatch_of_waiting⟩

/-- Settles O16: the halted step only clears what the step before has left to observe, and clearing it again does nothing. -/
theorem haltedIsFixedPoint : Obligations.HaltedIsFixedPoint := by
  intro s hagents hreset hstopped
  have halts (u : State) (hagents : u.agents = []) (hreset : u.resetRequest = false) (hstopped : u.stopped = true) :
      step u = .next u.haltStep := by
    rw [step_of_no_agents hagents, State.dispatch_of_stopped hreset hstopped]
  exact ⟨s.haltStep, halts s hagents hreset hstopped, rfl, rfl, rfl, rfl, rfl, rfl, rfl, rfl,
    halts s.haltStep hagents hreset hstopped⟩

end Sys2Proof.Proofs
end

section
/-! SUPPORT. What every step keeps: a property of the bus that writes and the agents' actions keep, the parameters, and what
follows for the memories, the cartridge and the dirty flags (10_state R42 to R49, 20_memory R100). -/

namespace Sys2Proof.Machine

/-! ### An invariant of the bus, by its writes and the agents' actions -/

theorem Reaches.bus_induction {P : Bus → Prop} (hwrite : ∀ b a v, P b → P (b.write a v)) {s t : State}
    {evs : List Event} (h : Reaches s t evs) (hs : P s.bus) : P t.bus := by
  induction h with
  | refl => exact hs
  | silent _ hsilent ih => rw [hsilent.bus]; exact ih
  | idle _ ih => exact ih
  | read _ _ _ _ ih => exact ih
  | write _ a v _ ih => exact hwrite _ a v ih

/-- A dispatch step changes the bus by writes only. -/
theorem State.dispatch_bus_induction {P : Bus → Prop} (hwrite : ∀ b a v, P b → P (b.write a v)) {s t : State}
    (h : s.dispatch = .next t) (hs : P s.bus) : P t.bus := by
  obtain ⟨o, evs, hreaches⟩ | ⟨hbus, -⟩ | ⟨hbus, -⟩ := State.dispatch_cases h
  · exact hreaches.bus_induction hwrite hs
  · rwa [hbus]
  · rw [hbus]
    exact hwrite _ _ _ (hwrite _ _ _ (hwrite _ _ _ hs))

theorem State.dispatch_parameters {s t : State} (h : s.dispatch = .next t) :
    t.reserved = s.reserved ∧ t.opcode5C = s.opcode5C := by
  obtain ⟨o, evs, hreaches⟩ | ⟨-, hparameters⟩ | ⟨-, hparameters⟩ := State.dispatch_cases h
  · obtain ⟨hreserved, hopcode5C, -⟩ := hreaches.parameters
    exact ⟨hreserved, hopcode5C⟩
  · exact hparameters
  · exact hparameters

/-- What every action of an agent keeps, and does not depend on the schedule, holds after the agents have acted. -/
theorem State.betweenSteps_induction {P : State → Prop} (hagents : ∀ s agents, P s → P { s with agents := agents })
    (haction : ∀ s act, P s → P (s.applyAction act)) {s : State} (hs : P s) : P s.betweenSteps := by
  unfold State.betweenSteps
  split
  · exact hs
  · exact List.foldlRecOn _ _ (hagents s _ hs) fun u hu act _ => haction u act hu

/-- What writes and the agents' actions keep, every step keeps. -/
theorem step_bus_induction {P : Bus → Prop} (hwrite : ∀ b a v, P b → P (b.write a v))
    (haction : ∀ (s : State) act, P s.bus → P (s.applyAction act).bus) {s t : State} (h : step s = .next t) (hs : P s.bus) :
    P t.bus :=
  State.dispatch_bus_induction hwrite h
    (State.betweenSteps_induction (P := fun u => P u.bus) (fun _ _ hu => hu) haction hs)

/-! ### What an action of an agent leaves -/

theorem State.applyAction_wf (s : State) (act : AgentAction) (h : s.bus.wf = true) :
    (s.applyAction act).bus.wf = true := by
  cases act with
  | acpWrite o v => exact Bus.wf_poke h (l := .aram o.toNat) o.isLt v
  | blitterVram b i v =>
    have hbank := b.isLt
    have hindex := i.isLt
    exact Bus.wf_poke h (l := .vram _) (by simp only [Loc.inBounds]; omega) v
  | blitterFb f o v =>
    have hbuffer := f.isLt
    have hoffset := o.isLt
    exact Bus.wf_poke h (l := .fb _) (by simp only [Loc.inBounds]; omega) v
  | setQuadrant | clearDirty | clearCycles | requestReset => exact h

theorem State.applyAction_cart (s : State) (act : AgentAction) : (s.applyAction act).bus.cart = s.bus.cart := by
  cases act <;> rfl

theorem State.applyAction_map (s : State) (act : AgentAction) : (s.applyAction act).bus.map = s.bus.map := by
  cases act <;> rfl

theorem State.applyAction_reserved (s : State) (act : AgentAction) : (s.applyAction act).reserved = s.reserved := by
  cases act <;> rfl

theorem State.applyAction_opcode5C (s : State) (act : AgentAction) : (s.applyAction act).opcode5C = s.opcode5C := by
  cases act <;> rfl

/-- An action clears a dirty flag or leaves them all (10_state R42, 92_eei D35). -/
theorem State.dirty_of_applyAction (s : State) (act : AgentAction) (k : Fin 32)
    (h : (s.applyAction act).bus.dirty.get k = true) : s.bus.dirty.get k = true := by
  cases act with
  | clearDirty j =>
    simp only [State.applyAction, State.setBus_bus, Vector.get_eq_getElem, Vector.getElem_set] at h ⊢
    split at h
    · exact absurd h Bool.false_ne_true
    · exact h
  | _ => exact h

end Sys2Proof.Machine
end

section
/-! SUPPORT. The statements on what every step keeps (10_state R42 to R49, 20_memory R90, R100). -/

namespace Sys2Proof.Proofs

open Sys2Proof Sys2Proof.Machine

/-- Settles O10: a write and an action of an agent reach keys inside their memory only. -/
theorem stepKeepsMemoriesWellFormed : Obligations.StepKeepsMemoriesWellFormed := fun _ _ hwf hstep =>
  step_bus_induction (P := fun b => b.wf = true) (fun _ a v hb => Bus.wf_write hb a v) State.applyAction_wf hstep hwf

/-- Settles O11: every memory is empty after reset, the cartridge's too. -/
theorem resetMemoriesWellFormed : Obligations.ResetMemoriesWellFormed :=
  State.powerOn_wf (cart := blankCartridge) (Memory.wf_empty _)

/-- Settles O14: neither a write nor an action of an agent reaches the cartridge or the parameters. -/
theorem stepKeepsCartridgeAndParameters : Obligations.StepKeepsCartridgeAndParameters := by
  intro s t hstep
  obtain ⟨hcart, hmap⟩ : t.bus.cart = s.bus.cart ∧ t.bus.map = s.bus.map :=
    step_bus_induction (P := fun b => b.cart = s.bus.cart ∧ b.map = s.bus.map)
      (fun b a v ⟨hcart, hmap⟩ => ⟨(b.write_cart a v).trans hcart, (b.write_map a v).trans hmap⟩)
      (fun u act ⟨hcart, hmap⟩ => ⟨(u.applyAction_cart act).trans hcart, (u.applyAction_map act).trans hmap⟩)
      hstep ⟨rfl, rfl⟩
  obtain ⟨hreserved, hopcode5C⟩ : s.betweenSteps.reserved = s.reserved ∧ s.betweenSteps.opcode5C = s.opcode5C :=
    State.betweenSteps_induction (P := fun u => u.reserved = s.reserved ∧ u.opcode5C = s.opcode5C) (fun _ _ hu => hu)
      (fun u act ⟨hreserved, hopcode5C⟩ =>
        ⟨(u.applyAction_reserved act).trans hreserved, (u.applyAction_opcode5C act).trans hopcode5C⟩)
      ⟨rfl, rfl⟩
  obtain ⟨hreserved', hopcode5C'⟩ := State.dispatch_parameters hstep
  exact ⟨hcart, hmap, hreserved'.trans hreserved, hopcode5C'.trans hopcode5C⟩

/-- Settles O15: a write moves no quadrant and sets at most a dirty flag; an action of an agent sets none. -/
theorem onlyAgentsClearDirty : Obligations.OnlyAgentsClearDirty := by
  refine ⟨fun s t hagents hstep => ?step, fun s k => ?agents⟩
  case step =>
    rw [step_of_no_agents hagents] at hstep
    refine ⟨?quadrant, fun k hdirty => ?dirty⟩
    case quadrant =>
      exact State.dispatch_bus_induction (P := fun b => b.quadrant = s.bus.quadrant)
        (fun b a v hb => (b.write_quadrant a v).trans hb) hstep rfl
    case dirty =>
      exact State.dispatch_bus_induction (P := fun b => b.dirty.get k = true)
        (fun b a v hb => b.write_dirty a v k hb) hstep hdirty
  case agents =>
    exact State.betweenSteps_induction (P := fun u => u.bus.dirty.get k = true → s.bus.dirty.get k = true)
      (fun _ _ hu => hu) (fun u act hu hdirty => hu (u.dirty_of_applyAction act k hdirty)) id

end Sys2Proof.Proofs
end

section
/-! SUPPORT. Reads and writes of every region but the video window and the cartridge, and what a written byte reads as
(20_memory R79 to R84, R90, R91, R110). -/

namespace Sys2Proof.Machine

/-! ### The address decode by region -/

theorem Bus.locate_ram (b : Bus) {a : Addr} (hhi : a.toNat ≤ 0x1FFF) :
    b.locate a = some (.ram (b.ramBank.toNat * 0x2000 + a.toNat)) := by
  obtain ⟨-, e⟩ | ⟨k, h, -⟩ | ⟨k, h, -⟩ | ⟨h, -⟩ | ⟨h, -⟩ | ⟨h, -⟩ | ⟨h, -⟩ := b.locate_cases a
  case inl => exact e
  all_goals omega

theorem Bus.locate_sysctl (b : Bus) {a : Addr} {k : Fin 10} (ha : a.toNat = 0x2000 + k.val) :
    b.locate a = some (.sysctl k) := by
  obtain ⟨h, -⟩ | ⟨j, h, e⟩ | ⟨j, h, -⟩ | ⟨h, -⟩ | ⟨h, -⟩ | ⟨h, -⟩ | ⟨h, -⟩ := b.locate_cases a
  case inr.inl =>
    obtain rfl : j = k := Fin.ext (by omega)
    exact e
  all_goals omega

theorem Bus.locate_via (b : Bus) {a : Addr} {k : Fin 16} (ha : a.toNat = 0x2800 + k.val) :
    b.locate a = some (.via k) := by
  obtain ⟨h, -⟩ | ⟨j, h, -⟩ | ⟨j, h, e⟩ | ⟨h, -⟩ | ⟨h, -⟩ | ⟨h, -⟩ | ⟨h, -⟩ := b.locate_cases a
  case inr.inr.inl =>
    obtain rfl : j = k := Fin.ext (by omega)
    exact e
  all_goals omega

theorem Bus.locate_aram (b : Bus) {a : Addr} (hlo : 0x3000 ≤ a.toNat) (hhi : a.toNat ≤ 0x3FFF) :
    b.locate a = some (.aram (a.toNat - 0x3000)) := by
  obtain ⟨h, -⟩ | ⟨k, h, -⟩ | ⟨k, h, -⟩ | ⟨-, -, e⟩ | ⟨h, -⟩ | ⟨h, -⟩ | ⟨h, -⟩ := b.locate_cases a
  case inr.inr.inr.inl => exact e
  all_goals omega

theorem Bus.locate_unmapped (b : Bus) {a : Addr}
    (ha : (0x200A ≤ a.toNat ∧ a.toNat ≤ 0x27FF) ∨ (0x2810 ≤ a.toNat ∧ a.toNat ≤ 0x2FFF)) : b.locate a = none := by
  obtain ⟨h, -⟩ | ⟨k, h, -⟩ | ⟨k, h, -⟩ | ⟨h, h', -⟩ | ⟨h, h', -⟩ | ⟨h, -⟩ | ⟨-, e⟩ := b.locate_cases a
  case inr.inr.inr.inr.inr.inr => exact e
  all_goals omega

/-! ### An access by the location behind its address -/

theorem Bus.read_of_locate_none {b : Bus} {a : Addr} (h : b.locate a = none) (l : Lines) :
    b.read l a = 0x00 ∧ b.readReport a = [.unmappedRead a] := by
  simp only [Bus.read, Bus.readReport, h, and_self]

theorem Bus.write_of_locate_none {b : Bus} {a : Addr} (h : b.locate a = none) (v : Byte) :
    b.write a v = b ∧ b.writeReport a v = [.unmappedWrite a v] := by
  simp only [Bus.write, Bus.writeReport, h, and_self]

theorem Bus.write_of_locate_ram {b : Bus} {a : Addr} {k : Nat} (h : b.locate a = some (.ram k)) (v : Byte) :
    b.write a v = { b with ram := b.ram.set k v } := by
  simp only [Bus.write, h, Bus.poke]

theorem Bus.write_of_locate_sysctl {b : Bus} {a : Addr} {k : Fin 10} (h : b.locate a = some (.sysctl k)) (v : Byte) :
    b.write a v = { b with sysctl := b.sysctl.set k.val v } := by
  simp only [Bus.write, h, Bus.poke]

theorem Bus.write_of_locate_aram {b : Bus} {a : Addr} {k : Nat} (h : b.locate a = some (.aram k)) (v : Byte) :
    b.write a v = { b with aram := b.aram.set k v } := by
  simp only [Bus.write, h, Bus.poke]

theorem Bus.write_of_locate_rom {b : Bus} {a : Addr} {k : Nat} (h : b.locate a = some (.rom k)) (v : Byte) :
    b.write a v = b ∧ b.writeReport a v = [.readOnlyWrite a v] := by
  simp only [Bus.write, Bus.writeReport, h, and_self]

/-- Every register of the I/O adapter but the output register only stores (20_memory R82). -/
theorem Bus.viaWrite_of_ne {b : Bus} {k : Fin 16} (h : k ≠ b.map.viaOutOffset) (v : Byte) :
    b.viaWrite k v = { b with via := b.via.set k.val v } := by
  simp only [Bus.viaWrite, if_neg h, Bus.poke]

/-- A byte written behind an address that is neither a system-control register nor cartridge reads back (20_memory R110):
a write does not move its own address. -/
theorem Bus.read_write_same {b : Bus} {a : Addr} {loc : Loc} (hloc : b.locate a = some loc)
    (hsys : ∀ k, loc ≠ .sysctl k) (hrom : ∀ k, loc ≠ .rom k) (l : Lines) (v : Byte) : (b.write a v).read l a = v := by
  obtain ⟨hstored, -⟩ := b.write_storedAt a v
  rw [Bus.read_of_locate ((b.locate_write_same a v).trans hloc) hsys]
  exact hstored loc hloc hrom

/-! ### Register fields under the default parameters (10_state R44, R50) -/

section DefaultMap
variable {b : Bus} (hmap : b.map = defaultBusMap)
include hmap

theorem Bus.ramBank_default : b.ramBank = (b.sysctl.get 5).extractLsb' 6 2 := by
  rw [Bus.ramBank, Bus.banking_default hmap, hmap]; rfl

/-- The two gamepad ports are the last two system-control registers (20_memory R81). -/
theorem Bus.read_sysctl_default {a : Addr} {k : Fin 10} (hloc : b.locate a = some (.sysctl k)) (l : Lines) :
    b.read l a = if k = 8 then l.pad1 else if k = 9 then l.pad2 else 0x00 := by
  simp only [Bus.read, hloc, Bus.sysRead, hmap]; rfl

theorem Bus.readReport_sysctl_default {a : Addr} {k : Fin 10} (hloc : b.locate a = some (.sysctl k)) :
    b.readReport a = if k = 8 ∨ k = 9 then [] else [.unbackedRead a] := by
  simp only [Bus.readReport, hloc, hmap]; rfl

/-- A system-control register that is no gamepad port reads as zero, with a report (20_memory R81). -/
theorem Bus.read_unbacked {a : Addr} (hlo : 0x2000 ≤ a.toNat) (hhi : a.toNat ≤ 0x2007) (l : Lines) :
    b.read l a = 0x00 ∧ b.readReport a = [.unbackedRead a] := by
  obtain ⟨k, ha⟩ : ∃ k : Fin 10, a.toNat = 0x2000 + k.val := ⟨⟨a.toNat - 0x2000, by omega⟩, by simp only; omega⟩
  have hpad1 : k ≠ 8 := by rintro rfl; exact absurd hhi (by rw [ha]; decide)
  have hpad2 : k ≠ 9 := by rintro rfl; exact absurd hhi (by rw [ha]; decide)
  have hloc := b.locate_sysctl ha
  rw [Bus.read_sysctl_default hmap hloc, Bus.readReport_sysctl_default hmap hloc, if_neg hpad1, if_neg hpad2,
    if_neg (not_or.mpr ⟨hpad1, hpad2⟩)]
  exact ⟨rfl, rfl⟩

theorem Bus.read_gamepad1 (l : Lines) : b.read l 0x2008 = l.pad1 ∧ b.readReport 0x2008 = [] := by
  have hloc := b.locate_sysctl (a := 0x2008) (k := 8) rfl
  exact ⟨Bus.read_sysctl_default hmap hloc l, Bus.readReport_sysctl_default hmap hloc⟩

theorem Bus.read_gamepad2 (l : Lines) : b.read l 0x2009 = l.pad2 ∧ b.readReport 0x2009 = [] := by
  have hloc := b.locate_sysctl (a := 0x2009) (k := 9) rfl
  exact ⟨Bus.read_sysctl_default hmap hloc l, Bus.readReport_sysctl_default hmap hloc⟩

end DefaultMap

end Sys2Proof.Machine
end

section
/-! SUPPORT. The statements on reads and writes by the address map (20_memory R79 to R91, R110). -/

namespace Sys2Proof.Proofs

open Sys2Proof Sys2Proof.Machine

/-- Settles O17, region by region, by the location that the decode gives. -/
theorem readsFollowAddressMap : Obligations.ReadsFollowAddressMap := by
  intro b l a hmap
  refine ⟨fun hhi => ?ram, fun hlo hhi => Bus.read_unbacked hmap hlo hhi l, ?pad1, ?pad2, fun k ha => ?via,
    fun hlo hhi => ?aram, fun ha => Bus.read_of_locate_none (b.locate_unmapped ha) l⟩
  case ram =>
    have hloc := b.locate_ram hhi
    rw [Bus.ramBank_default hmap] at hloc
    exact ⟨Bus.read_of_locate hloc nofun l, Bus.readReport_of_locate hloc nofun⟩
  case pad1 => rintro rfl; exact Bus.read_gamepad1 hmap l
  case pad2 => rintro rfl; exact Bus.read_gamepad2 hmap l
  case via =>
    have hloc := b.locate_via ha
    exact ⟨Bus.read_of_locate hloc nofun l, Bus.readReport_of_locate hloc nofun⟩
  case aram =>
    have hloc := b.locate_aram hlo hhi
    exact ⟨Bus.read_of_locate hloc nofun l, Bus.readReport_of_locate hloc nofun⟩

/-- Settles O18, region by region, by the location that the decode gives. -/
theorem writesFollowAddressMap : Obligations.WritesFollowAddressMap := by
  intro b a v hmap
  refine ⟨fun hhi => ?ram, fun k ha => ?sysctl, fun k ha hk => ?via, fun hlo hhi => ?aram,
    fun hlo => Bus.write_of_locate_rom (b.locate_cartridge hlo) v,
    fun ha => Bus.write_of_locate_none (b.locate_unmapped ha) v⟩
  case ram =>
    have hloc := b.locate_ram hhi
    rw [Bus.ramBank_default hmap] at hloc
    exact ⟨Bus.write_of_locate_ram hloc v, Bus.writeReport_of_locate hloc nofun v⟩
  case sysctl =>
    have hloc := b.locate_sysctl ha
    exact ⟨Bus.write_of_locate_sysctl hloc v, Bus.writeReport_of_locate hloc nofun v⟩
  case via =>
    have hloc := b.locate_via ha
    have hother : k ≠ b.map.viaOutOffset := by rw [hmap]; exact hk
    exact ⟨(Bus.write_of_locate_via hloc v).trans (Bus.viaWrite_of_ne hother v), Bus.writeReport_of_locate hloc nofun v⟩
  case aram =>
    have hloc := b.locate_aram hlo hhi
    exact ⟨Bus.write_of_locate_aram hloc v, Bus.writeReport_of_locate hloc nofun v⟩

/-- Settles O20: each of the regions shows a byte that is neither a system-control register nor cartridge. -/
theorem writeThenReadReturnsByte : Obligations.WriteThenReadReturnsByte := by
  intro b l a v hregion
  obtain ⟨-, e⟩ | ⟨k, h, -⟩ | ⟨k, -, e⟩ | ⟨-, -, e⟩ | ⟨-, -, e⟩ | ⟨h, -⟩ | ⟨h, -⟩ := b.locate_cases a
  case inl => exact Bus.read_write_same e nofun nofun l v
  case inr.inr.inl => exact Bus.read_write_same e nofun nofun l v
  case inr.inr.inr.inl => exact Bus.read_write_same e nofun nofun l v
  case inr.inr.inr.inr.inl => exact Bus.read_write_same e (b.locateVideo_ne_sysctl _) (b.locateVideo_ne_rom _) l v
  all_goals omega

end Sys2Proof.Proofs
end

section
/-! SUPPORT. Effective addresses as numbers, the index cycle, BranchOp from any state, and the bits of P
(40_addressing R161 to R183, 41_accessors R200 to R205, 10_state R35). -/

namespace Sys2Proof.Machine

/-! ### Effective addresses as numbers -/

theorem add_zext16_toNat (a : Addr) (b : Byte) : (a + zext16 b).toNat = (a.toNat + b.toNat) % 65536 := by
  rw [BitVec.toNat_add, zext16_toNat]

theorem zext16_add_toNat (z b : Byte) : (zext16 (z + b)).toNat = (z.toNat + b.toNat) % 256 := by
  rw [zext16_toNat, BitVec.toNat_add]

theorem zext16_eq_ofNat (b : Byte) : zext16 b = BitVec.ofNat 16 b.toNat := (BitVec.ofNat_toNat 16 b).symm

/-- The word at a zero-page pointer, whose second byte wraps within the zero page (20_memory R75, 40_addressing R183). -/
theorem State.zpPointer_toNat (s : State) (k : Nat) (p : Byte) :
    (s.zpPointer k p).toNat
      = (s.byteAt (k + 1) (BitVec.ofNat 16 ((p.toNat + 1) % 256))).toNat * 256
        + (s.byteAt k (BitVec.ofNat 16 p.toNat)).toNat := by
  rw [State.zpPointer, joinBytes_toNat, zext16_eq_ofNat, zext16_eq_ofNat, BitVec.toNat_add]
  rfl

/-! ### The index cycle -/

/-- The high byte of a sum changes exactly when the low byte carries, at the top of the address space too
(40_addressing R161). -/
theorem pageCrossed_add_zext16 (base : Addr) (index : Byte) :
    pageCrossed base (base + zext16 index) = decide (0xFF < (loByte base).toNat + index.toNat) := by
  have hhigh : hiByte base = hiByte (base + zext16 index)
      ↔ base.toNat / 256 = (base.toNat + index.toNat) % 65536 / 256 := by
    rw [← BitVec.toNat_inj, hiByte_toNat, hiByte_toNat, add_zext16_toNat]
  rw [Bool.eq_iff_iff, pageCrossed, bne_iff_ne, ne_eq, hhigh, decide_eq_true_iff, loByte_toNat]
  omega

/-- The slow variant spends the index cycle that the fast one spends on a page crossing only (40_addressing R162). -/
theorem State.indexCycle_slow (s : State) (crossed : Bool) :
    s.indexCycle true crossed = if crossed then s.indexCycle false crossed else (s.indexCycle false crossed).idle := by
  cases crossed <;> rfl

/-! ### BranchOp from any state -/

theorem State.branchTo_arch (s : State) (target : Addr) (taken : Bool) :
    (s.branchTo target taken).arch = { s.arch with pc := if taken then target else s.pc } := by
  cases taken with
  | false => rfl
  | true =>
    simp only [State.branchTo, if_true]
    split <;> rfl

theorem State.branchTo_trace (s : State) (target : Addr) (taken : Bool) :
    (s.branchTo target taken).trace = s.trace ++ branchTrace s.pc target taken := by
  cases taken with
  | false => exact (List.append_nil s.trace).symm
  | true =>
    simp only [State.branchTo, branchTrace, if_true]
    split
    · exact List.append_assoc s.trace [.idle] [.idle]
    · rfl

/-- BranchOp on an accessor that has a target (41_accessors R204). -/
theorem branchOp_ok {acc : Accessor} {target : Addr} (h : acc = .branch target ∨ ∃ m, acc = .bitBranch m target)
    (taken : Bool) (s : State) :
    ∃ t, branchOp acc taken s = .ok t ∧ t.arch = { s.arch with pc := if taken then target else s.pc }
      ∧ t.trace = s.trace ++ branchTrace s.pc target taken := by
  refine ⟨s.branchTo target taken, ?_, s.branchTo_arch target taken, s.branchTo_trace target taken⟩
  obtain rfl | ⟨m, rfl⟩ := h <;> rfl

/-! ### P as a byte -/

/-- The bits of P, most significant first (10_state R35). -/
theorem Flags.toByte_bits (p : Flags) (brk : Bool) :
    (p.toByte brk).getLsbD 7 = p.n ∧ (p.toByte brk).getLsbD 6 = p.v ∧ (p.toByte brk).getLsbD 5 = true
      ∧ (p.toByte brk).getLsbD 4 = brk ∧ (p.toByte brk).getLsbD 3 = p.d ∧ (p.toByte brk).getLsbD 2 = p.i
      ∧ (p.toByte brk).getLsbD 1 = p.z ∧ (p.toByte brk).getLsbD 0 = p.c := by
  simp only [Flags.toByte, BitVec.getLsbD_append, BitVec.getLsbD_ofBool]
  simp

theorem Flags.ofByte_toByte (p : Flags) (brk : Bool) : Flags.ofByte (p.toByte brk) = p := by
  obtain ⟨hn, hv, -, -, hd, hi, hz, hc⟩ := p.toByte_bits brk
  rw [Flags.ofByte, hn, hv, hd, hi, hz, hc]

/-- Each flag counts with the weight of its bit. -/
theorem Flags.toByte_eq_sum (p : Flags) (brk : Bool) :
    p.toByte brk = BitVec.ofNat 8 (128 * bitNat p.n + 64 * bitNat p.v + 32 + 16 * bitNat brk + 8 * bitNat p.d
      + 4 * bitNat p.i + 2 * bitNat p.z + bitNat p.c) := by
  have h : ∀ n v d i z c brk : Bool, Flags.toByte ⟨n, v, d, i, z, c⟩ brk
      = BitVec.ofNat 8 (128 * bitNat n + 64 * bitNat v + 32 + 16 * bitNat brk + 8 * bitNat d + 4 * bitNat i
        + 2 * bitNat z + bitNat c) := by decide
  exact h p.n p.v p.d p.i p.z p.c brk

/-- The bits of a byte with bit 5 set and bit 4 replaced. -/
theorem maskedStatus_getLsbD (v : Byte) (brk : Bool) {k : Nat} (hk : k < 8) :
    ((v &&& 0xCF) ||| 0x20 ||| (if brk then 0x10 else 0x00)).getLsbD k
      = if k = 5 then true else if k = 4 then brk else v.getLsbD k := by
  cases brk <;> interval_cases k <;> simp

/-- Bits 5 and 4 of a byte written into P are lost: 5 reads as one, 4 as the reader says. -/
theorem Flags.toByte_ofByte (v : Byte) (brk : Bool) :
    (Flags.ofByte v).toByte brk = (v &&& 0xCF) ||| 0x20 ||| (if brk then 0x10 else 0x00) := by
  obtain ⟨h7, h6, h5, h4, h3, h2, h1, h0⟩ := (Flags.ofByte v).toByte_bits brk
  apply BitVec.eq_of_getLsbD_eq
  intro k hk
  rw [maskedStatus_getLsbD v brk hk]
  interval_cases k
  exacts [h0, h1, h2, h3, h4, h5, h6, h7]

end Sys2Proof.Machine
end

section
/-! SUPPORT. The statements on addressing, accessors, the status byte and the state after reset. -/

namespace Sys2Proof.Proofs

open Sys2Proof Sys2Proof.Machine

/-- Settles O26. -/
theorem pageCrossingIsLowByteCarry : Obligations.PageCrossingIsLowByteCarry := pageCrossed_add_zext16

/-- Settles O25, by what sums and pointers are as numbers. -/
theorem zeroPageSumsWrap : Obligations.ZeroPageSumsWrap := by
  intro s z a slow pointer
  have hpointer (k : Nat) (p : Byte) : (s.zpPointer k p).toNat = pointer k p.toNat := s.zpPointer_toNat k p
  refine ⟨zext16_toNat z, zext16_add_toNat z s.x, zext16_add_toNat z s.y, rfl, add_zext16_toNat a s.x,
    add_zext16_toNat a s.y, ?izx, ?izy, hpointer 2 z, rfl, rfl, hpointer 2 z, hpointer⟩
  case izx => exact (hpointer 3 (z + s.x)).trans (by rw [BitVec.toNat_add])
  case izy => exact (add_zext16_toNat _ s.y).trans (by rw [hpointer])

/-- Settles O27: the variants differ in their index cycle only. -/
theorem slowVariantAlwaysSpendsIndexCycle : Obligations.SlowVariantAlwaysSpendsIndexCycle := by
  intro s a z mk hmk
  simp only [List.mem_cons, List.not_mem_nil, or_false] at hmk
  obtain rfl | rfl | rfl := hmk
  case inl => exact ⟨rfl, State.indexCycle_slow _ _⟩
  case inr.inl => exact ⟨rfl, State.indexCycle_slow _ _⟩
  case inr.inr => exact ⟨rfl, State.indexCycle_slow _ _⟩

/-- Settles O28, variant by variant; only a branch does more than the operation's definition says. -/
theorem accessorCapabilities : Obligations.AccessorCapabilities := by
  intro s v m ea target f taken old onMemory onA
  refine ⟨rfl, rfl, rfl, rfl, ?read, rfl, rfl, rfl, rfl, ?store, ?branch, ?noBranch, rfl, ?address, rfl, rfl, rfl, rfl, rfl⟩
  case read => rintro acc (rfl | rfl) <;> rfl
  case store => rintro acc (rfl | rfl | rfl | rfl) <;> exact ⟨rfl, rfl⟩
  case branch => exact fun acc hacc => branchOp_ok (hacc.imp_right fun h => ⟨m, h⟩) taken s
  case noBranch => rintro acc (rfl | rfl | rfl | rfl) <;> rfl
  case address => rintro acc (rfl | rfl | rfl | rfl | rfl) <;> rfl

/-- Settles O33, from the bits of P. -/
theorem statusByteLayout : Obligations.StatusByteLayout := fun p brk v =>
  ⟨p.toByte_eq_sum brk, p.ofByte_toByte brk, Flags.toByte_ofByte v brk⟩

/-- Settles O60: the values of the reset state, whose vector lies in the blank cartridge. -/
theorem resetStateValues : Obligations.ResetStateValues :=
  ⟨rfl, rfl, rfl, rfl, rfl, rfl, rfl, rfl, rfl, by decide, by decide, by decide⟩

end Sys2Proof.Proofs
end

section
/-! SUPPORT. Placing an instruction where the step fetches (notes/assumptions/5.md): addresses that hold code show bytes of
their own, which read as they were stored. -/

namespace Sys2Proof.Machine

/-! ### Locations that hold code -/

/-- A location whose byte reads as stored and that no two addresses of one instruction share. -/
def Loc.HoldsCode (l : Loc) : Prop := (∀ k, l ≠ .sysctl k) ∧ ∀ k, l ≠ .blit k

theorem Bus.holdsCode_iff (b : Bus) (a : Addr) : b.holdsCode a = true ↔ ∃ l, b.locate a = some l ∧ l.HoldsCode := by
  unfold Bus.holdsCode
  split
  case h_1 k h => exact ⟨nofun, fun ⟨l, hl, hsys, _⟩ => absurd (Option.some.inj (hl.symm.trans h)) (hsys k)⟩
  case h_2 k h => exact ⟨nofun, fun ⟨l, hl, _, hblit⟩ => absurd (Option.some.inj (hl.symm.trans h)) (hblit k)⟩
  case h_3 l hsys hblit h => exact ⟨fun _ => ⟨l, h, hsys, hblit⟩, fun _ => rfl⟩
  case h_4 h => exact ⟨nofun, fun ⟨l, hl, _⟩ => nomatch hl.symm.trans h⟩

/-- The low 13 bits of the addresses that show a location, but for the repeated blitter registers. In VRAM an address has
seven bits of the row and seven of the column (20_memory R87); each window of the cartridge is a multiple of 0x2000 long. -/
def Loc.lowBits (l : Loc) : Nat :=
  match l with
  | .ram k | .fb k | .rom k => k % 0x2000
  | .sysctl k => k.val
  | .via k => 0x0800 + k.val
  | .aram k => (k + 0x1000) % 0x2000
  | .vram k => (k / 256 % 128 * 128 + k % 128) % 0x2000
  | .blit _ => 0

theorem quadrantShift_eq (q : Bool) : quadrantShift q = 0 ∨ quadrantShift q = 128 := by cases q <;> decide

theorem Bus.vramIndex_lowBits (b : Bus) (bank : Nat) {o : Nat} (_ : o < 0x4000) :
    (Loc.vram (bank * 0x10000 + b.vramIndex o)).lowBits = o % 0x2000 := by
  simp only [Bus.vramIndex, Loc.lowBits]
  have hbottom := quadrantShift_eq (b.quadrant.getLsbD b.map.quadBottomBit.val)
  have hright := quadrantShift_eq (b.quadrant.getLsbD b.map.quadRightBit.val)
  omega

theorem CartSize.offset_lowBits (size : CartSize) (bank : BitVec 7) (c : Nat) :
    size.offset bank c % 0x2000 = c % 0x2000 := by
  cases size with
  | k8 | k32 => simp only [CartSize.offset]; omega
  | m2 =>
    simp only [CartSize.offset]
    split <;> omega

theorem Bus.lowBits_of_locate (b : Bus) {a : Addr} {l : Loc} (h : b.locate a = some l) (hl : l.HoldsCode) :
    l.lowBits = a.toNat % 0x2000 := by
  obtain ⟨hsys, hblit⟩ := hl
  obtain ⟨ha, e⟩ | ⟨k, ha, e⟩ | ⟨k, ha, e⟩ | ⟨ha, ha', e⟩ | ⟨ha, ha', e⟩ | ⟨ha, e⟩ | ⟨-, e⟩ := b.locate_cases a
    <;> rw [h] at e
  case inr.inl => exact absurd (Option.some.inj e) (hsys k)
  case inr.inr.inr.inr.inl =>
    obtain ⟨-, e'⟩ | ⟨-, e'⟩ | ⟨-, -, e'⟩ := b.locateVideo_cases (a.toNat - 0x4000)
      <;> obtain rfl := (Option.some.inj e).trans e'
    · simp only [Loc.lowBits]; omega
    · rw [b.vramIndex_lowBits _ (by omega)]; omega
    · exact absurd rfl (hblit _)
  case inr.inr.inr.inr.inr.inl =>
    obtain rfl := Option.some.inj e
    rw [Loc.lowBits, CartSize.offset_lowBits]; omega
  case inr.inr.inr.inr.inr.inr => nomatch e
  all_goals
    obtain rfl := Option.some.inj e
    simp only [Loc.lowBits]
    omega

/-! ### Placing a byte -/

theorem Bus.locate_poke (b : Bus) {l : Loc} (hsys : ∀ k, l ≠ .sysctl k) (v : Byte) (a : Addr) :
    (b.poke l v).locate a = b.locate a := by
  cases l with
  | sysctl k => exact absurd rfl (hsys k)
  | _ => exact Bus.locate_congr a rfl rfl rfl rfl rfl

section
variable {b : Bus} {a : Addr} (ha : b.holdsCode a = true)
include ha

theorem Bus.locate_placeByte (v : Byte) (c : Addr) : (b.placeByte a v).locate c = b.locate c := by
  obtain ⟨l, hloc, hsys, -⟩ := (b.holdsCode_iff a).mp ha
  simp only [Bus.placeByte, hloc, b.locate_poke hsys]

theorem Bus.holdsCode_placeByte (v : Byte) (c : Addr) : (b.placeByte a v).holdsCode c = b.holdsCode c := by
  rw [Bool.eq_iff_iff, Bus.holdsCode_iff, Bus.holdsCode_iff, Bus.locate_placeByte ha]

theorem Bus.read_placeByte_same (v : Byte) (i : Lines) : (b.placeByte a v).read i a = v := by
  obtain ⟨l, hloc, hsys, -⟩ := (b.holdsCode_iff a).mp ha
  rw [Bus.read_of_locate ((Bus.locate_placeByte ha v a).trans hloc) hsys]
  simp only [Bus.placeByte, hloc, Bus.peek_poke_same]

/-- Addresses with other low bits do not show the placed byte. -/
theorem Bus.read_placeByte_other {c : Addr} (hc : b.holdsCode c = true) (hne : c.toNat % 0x2000 ≠ a.toNat % 0x2000)
    (v : Byte) (i : Lines) : (b.placeByte a v).read i c = b.read i c := by
  obtain ⟨l, hloc, hl⟩ := (b.holdsCode_iff a).mp ha
  obtain ⟨m, hloc', hm⟩ := (b.holdsCode_iff c).mp hc
  have hother : m ≠ l := by
    rintro rfl
    exact hne ((b.lowBits_of_locate hloc' hm).symm.trans (b.lowBits_of_locate hloc hl))
  obtain ⟨hsys, -⟩ := hm
  rw [Bus.read_of_locate ((Bus.locate_placeByte ha v c).trans hloc') hsys, Bus.read_of_locate hloc' hsys]
  simp only [Bus.placeByte, hloc, b.peek_poke_other v hother]

end

/-! ### Placing three bytes -/

/-- Three addresses in a row hold code. -/
def Bus.HoldsInstr (b : Bus) (a : Addr) : Prop :=
  b.holdsCode a = true ∧ b.holdsCode (a + 1) = true ∧ b.holdsCode (a + 2) = true

/-- Addresses in a row differ in their low bits, at the top of the address space too. -/
theorem lowBits_ne_next (a : Addr) :
    a.toNat % 0x2000 ≠ (a + 1).toNat % 0x2000 ∧ a.toNat % 0x2000 ≠ (a + 2).toNat % 0x2000
      ∧ (a + 1).toNat % 0x2000 ≠ (a + 2).toNat % 0x2000 := by
  have h1 : (a + 1).toNat = (a.toNat + 1) % 65536 := BitVec.toNat_add a 1
  have h2 : (a + 2).toNat = (a.toNat + 2) % 65536 := BitVec.toNat_add a 2
  omega

theorem Bus.placeBytes_three (b : Bus) (a : Addr) (v0 v1 v2 : Byte) :
    b.placeBytes a [v0, v1, v2] = ((b.placeByte a v0).placeByte (a + 1) v1).placeByte (a + 2) v2 := by
  have ha : a + 1 + 1 = a + 2 := addr_add_one_one a
  rw [← ha]
  rfl

theorem Bus.read_placeBytes {b : Bus} {a : Addr} (h : b.HoldsInstr a) (v0 v1 v2 : Byte) :
    (∀ i, (b.placeBytes a [v0, v1, v2]).read i a = v0) ∧ (∀ i, (b.placeBytes a [v0, v1, v2]).read i (a + 1) = v1)
      ∧ ∀ i, (b.placeBytes a [v0, v1, v2]).read i (a + 2) = v2 := by
  obtain ⟨h0, h1, h2⟩ := h
  obtain ⟨hne01, hne02, hne12⟩ := lowBits_ne_next a
  have keeps1 (c : Addr) : (b.placeByte a v0).holdsCode c = b.holdsCode c := Bus.holdsCode_placeByte h0 v0 c
  have keeps2 (c : Addr) : ((b.placeByte a v0).placeByte (a + 1) v1).holdsCode c = b.holdsCode c :=
    (Bus.holdsCode_placeByte ((keeps1 _).trans h1) v1 c).trans (keeps1 c)
  have second := Bus.read_placeByte_same ((keeps1 _).trans h1) v1
  have third := Bus.read_placeByte_same ((keeps2 _).trans h2) v2
  rw [Bus.placeBytes_three]
  refine ⟨fun i => ?_, fun i => ?_, third⟩
  · rw [Bus.read_placeByte_other ((keeps2 _).trans h2) ((keeps2 _).trans h0) hne02,
      Bus.read_placeByte_other ((keeps1 _).trans h1) ((keeps1 _).trans h0) hne01, Bus.read_placeByte_same h0]
  · rw [Bus.read_placeByte_other ((keeps2 _).trans h2) ((keeps2 _).trans h1) hne12, second]

/-- The RAM at 0x0200 holds code in every bank. -/
theorem Bus.holdsInstr_ram (b : Bus) : b.HoldsInstr 0x0200 := by
  have hram (a : Addr) (ha : a.toNat ≤ 0x1FFF) : b.holdsCode a = true :=
    (b.holdsCode_iff a).mpr ⟨_, b.locate_ram ha, nofun, nofun⟩
  exact ⟨hram _ (by decide), hram _ (by decide), hram _ (by decide)⟩

theorem State.placeAddr_holdsInstr (s : State) : s.bus.HoldsInstr s.placeAddr := by
  unfold State.placeAddr
  split
  case isTrue h =>
    rw [Bool.and_eq_true, Bool.and_eq_true, and_assoc] at h
    exact h
  case isFalse => exact s.bus.holdsInstr_ram

/-- The bytes placed are the bytes the step fetches, whichever event reads the third. -/
theorem State.fetchedInstr_place (s : State) (v0 v1 v2 : Byte) :
    (s.place [v0, v1, v2]).fetchedInstr = decodeBytes v0 v1 v2 := by
  obtain ⟨h0, h1, h2⟩ := Bus.read_placeBytes s.placeAddr_holdsInstr v0 v1 v2
  have hop (k : Nat) : (s.place [v0, v1, v2]).byteAt k (s.place [v0, v1, v2]).pc = v0 := h0 _
  have hsecond (k : Nat) : (s.place [v0, v1, v2]).byteAt k ((s.place [v0, v1, v2]).pc + 1) = v1 := h1 _
  have hthird (k : Nat) : (s.place [v0, v1, v2]).byteAt k ((s.place [v0, v1, v2]).pc + 2) = v2 := h2 _
  simp only [State.fetchedInstr, hop, hsecond, hthird]

theorem step_place (s : State) (v0 v1 v2 : Byte) :
    step (s.place [v0, v1, v2]) = exec (decodeBytes v0 v1 v2) (s.place [v0, v1, v2]) := by
  rw [step_of_no_agents rfl, State.dispatch_of_running rfl rfl rfl rfl, State.fetchedInstr_place]

end Sys2Proof.Machine
end

section
/-! SUPPORT. The statement on placing an instruction (notes/assumptions/5.md). -/

namespace Sys2Proof.Proofs

open Sys2Proof Sys2Proof.Machine

/-- Settles O9: the three bytes of the word stand at PC, so the step fetches the instruction they decode to. -/
theorem placedInstructionRunsNext : Obligations.PlacedInstructionRunsNext := by
  intro s nbits w i hdecode
  rw [decodeTableWord_eq, Option.some.injEq] at hdecode
  rw [← hdecode]
  exact step_place s _ _ _

end Sys2Proof.Proofs
end
